-- ==== Sys2Proof/Word.lean ====
section
/-! DEFINITION. The word types of TCSM: the byte, the 12-bit command word, the 64-bit RESULT, the 16-bit Celsius
word, the 8-byte device address and the 2-byte raw payload (spec 00_scope.md R5). -/

namespace Sys2Proof

/-- 8 bits (R5, R7). -/
abbrev Byte := BitVec 8

/-- One command word `CMD[11:0]`, delivered whole (30_encoding.md R50). -/
abbrev Command := BitVec 12

/-- The 64-bit RESULT of a transaction (30_encoding.md R55). -/
abbrev Result := BitVec 64

/-- Sixteen bits read as a signed number with four fraction bits (10_state.md R15). -/
abbrev Q4 := BitVec 16

/-- A device address, `ADDRESS[0]` first (10_state.md R11). -/
abbrev Address := Vector Byte 8

/-- The raw payload: `low` is `RAW[0]`, the byte read first, `high` is `RAW[1]` (10_state.md R14, 20_memory.md R34). -/
structure RawPayload where
  low  : Byte
  high : Byte
  deriving DecidableEq, Repr

end Sys2Proof
end

