-- ==== Sys2Proof/Config.lean ====
section
/-! DEFINITION. What the spec leaves open, as constants without a body: the parameters of 00_scope.md R6 and the free
values behind the unconstrained draws (20_memory.md R32, 93_implementation_defined.md U1). Nothing in Lean can
evaluate them, so whatever is proved holds for every value of them. -/

namespace Sys2Proof

/-- The parameter `crc8 : (bytes, count) -> byte`, a total pure function and nothing more (R6(a), D19; log 3). -/
opaque Config.crc8 : List Byte → Nat → Byte

/-- The parameter `T_CONV : byte -> duration`, in a unit of the host's; no rule of the block reads it
(R6(b), 70_reset_and_hazards.md R149; log 4). -/
opaque Config.tConv : Byte → Nat

/-- The presence bit answered to a `Bus.reset()` for which no answer was prepared (20_memory.md R32; log 2). -/
opaque Config.busPresence : Nat → Bool

/-- The byte answered to a `Bus.read()` for which no answer was prepared (20_memory.md R32; log 2). -/
opaque Config.busByte : Nat → Byte

/-- The answer to a `Bus.search()` for which none was prepared; `none` is "exhausted" (20_memory.md R31, R32; log 2). -/
opaque Config.busSearch : Nat → Option Address

/-- `any_8()`: the byte of the `n`-th draw (00_scope.md R7; log 6, log 7). -/
opaque Config.anyByte : Nat → Byte

/-- `any_8()` for each byte of an address: the draws `n` .. `n + 7` (40_discovery.md R70, FAIL). -/
def Config.anyAddress (n : Nat) : Address :=
  #v[Config.anyByte n, Config.anyByte (n + 1), Config.anyByte (n + 2), Config.anyByte (n + 3),
     Config.anyByte (n + 4), Config.anyByte (n + 5), Config.anyByte (n + 6), Config.anyByte (n + 7)]

/-- `any_16()` for the two raw bytes: the draws `n` and `n + 1` (70_reset_and_hazards.md R140). -/
def Config.anyRaw (n : Nat) : RawPayload :=
  { low := Config.anyByte n, high := Config.anyByte (n + 1) }

end Sys2Proof
end

