-- ==== Sys2Proof/Syntax.lean ====
section
/-! DEFINITION. The nine commands of TCSM (30_encoding.md R51) and the lines of a host program (R61). -/

namespace Sys2Proof

/-- The commands, one constructor per row of the opcode map (30_encoding.md R51). SETP alone has an operand (R52). -/
inductive Instr where
  /-- BEGIN: find one device and bind to it (40_discovery.md R70). -/
  | begin
  /-- SETP: set the resolution byte (41_resolution_config.md R80). -/
  | setp (imm8 : Byte)
  /-- START: write the configuration and start a conversion (42_conversion_sequence.md R85). -/
  | start
  /-- RDY: poll for the end of the conversion (42_conversion_sequence.md R86). -/
  | rdy
  /-- READ: fetch and convert the result (42_conversion_sequence.md R87). -/
  | read
  /-- GETTEMP: return TEMP (44_accessors.md R110). -/
  | getTemp
  /-- GETRAW: return RAW (44_accessors.md R111). -/
  | getRaw
  /-- GETADDR: return ADDRESS (44_accessors.md R112). -/
  | getAddr
  /-- ISREADING: return CIP (44_accessors.md R113). -/
  | isReading
  deriving DecidableEq, Repr

/-- One line of a host program (30_encoding.md R61), its operand still the number that was written. -/
inductive Line where
  | begin
  | setp (operand : Nat)
  /-- `SETP.9` -/
  | setp9
  /-- `SETP.10` -/
  | setp10
  /-- `SETP.11` -/
  | setp11
  /-- `SETP.12` -/
  | setp12
  | start
  | rdy
  | read
  | getTemp
  | getRaw
  | getAddr
  | isReading
  /-- The host macro `WAIT`: RDY until ready; no command of the block. -/
  | wait
  deriving DecidableEq, Repr

end Sys2Proof
end

