-- ==== Sys2Proof/WellFormed.lean ====
section
/-! DEFINITION. What is checked of syntax. Every `Instr` is encodable by its type (SETP's operand is a byte, any byte,
30_encoding.md R52), so the checks are on host lines, whose operand is a written number, and on the caller's contract,
which the block does not enforce (41_resolution_config.md R80). -/

namespace Sys2Proof

/-- Every term of `Instr` is a command the block accepts: there is nothing to refuse (30_encoding.md R52, R53). -/
def Instr.wellFormed : Instr → Bool
  | .begin => true
  | .setp _ => true
  | .start => true
  | .rdy => true
  | .read => true
  | .getTemp => true
  | .getRaw => true
  | .getAddr => true
  | .isReading => true

/-- A line's operand is a byte: "`0xHH` or in decimal 0 to 255" (30_encoding.md R61). -/
def Line.wellFormed : Line → Bool
  | .setp operand => decide (operand < 256)
  | .begin => true
  | .setp9 => true
  | .setp10 => true
  | .setp11 => true
  | .setp12 => true
  | .start => true
  | .rdy => true
  | .read => true
  | .getTemp => true
  | .getRaw => true
  | .getAddr => true
  | .isReading => true
  | .wait => true

/-- The caller's contract on SETP: one of the four resolution codes (10_state.md R13, 30_encoding.md R58). A breach of
it does not stop the block (41_resolution_config.md R80). -/
def Instr.inContract : Instr → Bool
  | .setp imm8 => imm8 == 0x1F || imm8 == 0x2F || imm8 == 0x3F || imm8 == 0x7F
  | .begin => true
  | .start => true
  | .rdy => true
  | .read => true
  | .getTemp => true
  | .getRaw => true
  | .getAddr => true
  | .isReading => true

end Sys2Proof
end

