-- ==== Sys2Proof/Decode.lean ====
section
/-! DEFINITION. The decoder of the 12-bit command word and the encoder after it (30_encoding.md R50 to R53). -/

namespace Sys2Proof

/-- `op = CMD[11:8]` (30_encoding.md R50). -/
def opcodeOf (w : Command) : BitVec 4 := w.extractLsb' 8 4

/-- `imm8 = CMD[7:0]` (30_encoding.md R50). -/
def imm8Of (w : Command) : Byte := w.extractLsb' 0 8

/-- Why a word is no command. -/
inductive DecodeError where
  /-- The opcode is 0x0 or 0xA to 0xF (30_encoding.md R53). -/
  | illegalOpcode (op : BitVec 4)
  deriving DecidableEq, Repr

/-- The opcode map (30_encoding.md R51). `imm8` is SETP's operand and is ignored by every other command (R52). -/
def decode (w : Command) : Except DecodeError Instr :=
  match (opcodeOf w).toNat with
  | 1 => .ok .begin
  | 2 => .ok (.setp (imm8Of w))
  | 3 => .ok .start
  | 4 => .ok .rdy
  | 5 => .ok .read
  | 6 => .ok .getTemp
  | 7 => .ok .getRaw
  | 8 => .ok .getAddr
  | 9 => .ok .isReading
  | _ => .error (.illegalOpcode (opcodeOf w))

/-- One row of the opcode map: a word `w` selects it when `w & mask = pattern` (30_encoding.md R51). -/
structure OpcodeRow where
  mask    : Command
  pattern : Command
  deriving DecidableEq, Repr

def OpcodeRow.selects (r : OpcodeRow) (w : Command) : Bool := w &&& r.mask == r.pattern

/-- The row of each command, `mask` and `match` as the map prints them (30_encoding.md R51). -/
def Instr.row : Instr → OpcodeRow
  | .begin     => ⟨0xF00, 0x100⟩
  | .setp _    => ⟨0xF00, 0x200⟩
  | .start     => ⟨0xF00, 0x300⟩
  | .rdy       => ⟨0xF00, 0x400⟩
  | .read      => ⟨0xF00, 0x500⟩
  | .getTemp   => ⟨0xF00, 0x600⟩
  | .getRaw    => ⟨0xF00, 0x700⟩
  | .getAddr   => ⟨0xF00, 0x800⟩
  | .isReading => ⟨0xF00, 0x900⟩

/-- The word of a line, `{op, imm8}` with `imm8 = 0x00` where there is no operand (30_encoding.md R61). -/
def wordOf (op : BitVec 4) (imm8 : Byte) : Command := op ++ imm8

/-- The encoder (30_encoding.md R51, R61). -/
def encode : Instr → Command
  | .begin     => wordOf 0x1 0x00
  | .setp imm8 => wordOf 0x2 imm8
  | .start     => wordOf 0x3 0x00
  | .rdy       => wordOf 0x4 0x00
  | .read      => wordOf 0x5 0x00
  | .getTemp   => wordOf 0x6 0x00
  | .getRaw    => wordOf 0x7 0x00
  | .getAddr   => wordOf 0x8 0x00
  | .isReading => wordOf 0x9 0x00

/-- The command word inside a numbered word of `nbits` bits: `CMD[11:0]` are its bits 11 to 0, and the port has no
further bits (30_encoding.md R50; log 13). -/
def tableCommand (nbits w : Nat) : Command := BitVec.ofNat 12 (w % 2 ^ nbits)

/-- The command the decoder reads from a numbered word. -/
def decodeTableWord (nbits w : Nat) : Option Instr :=
  match decode (tableCommand nbits w) with
  | .ok i => some i
  | .error _ => none

end Sys2Proof
end

