-- ==== Sys2Proof/Machine/State.lean ====
section
/-! DEFINITION. The state of TCSM: the seven pieces the spec gives it (10_state.md R10), what a run is given (the host's
inputs, the bus answers), and the record that R39 and R154 ask for; the reasons a step can stop; the state after reset. -/

namespace Sys2Proof.Machine

/-- The ERR codes by name (30_encoding.md R56). -/
inductive Err where
  | ok
  | noDevice
  | notInitialized
  /-- Reserved: no step produces it (60_exceptions.md R123). -/
  | invalidConfiguration
  | illegalCommand
  deriving DecidableEq, Repr

/-- One call on the Bus Access Capability with its arguments (20_memory.md R31). -/
inductive BusCall where
  | reset
  | select (address : Address)
  | write (byte : Byte)
  | read
  | search
  | crc8 (bytes : List Byte) (count : Nat)
  deriving DecidableEq, Repr

/-- One call as it happened: its arguments and the answer it got (20_memory.md R31, R39). -/
inductive BusEvent where
  | reset (presence : Bool)
  | select (address : Address)
  | write (byte : Byte)
  | read (byte : Byte)
  /-- `none` is "exhausted" (92_eei_decisions.md D20). -/
  | search (answer : Option Address)
  | crc8 (bytes : List Byte) (count : Nat) (answer : Byte)
  deriving DecidableEq, Repr

/-- The micro-sequencer state: IDLE and the step labels (10_state.md R17). Two labels carry what the command has in
hand there: SETP its operand, BEGIN.B2 the candidate under test (log 9). -/
inductive Seq where
  | idle
  | beginB0 | beginB1 | beginB2 (cand : Address)
  | setpP0 (imm8 : Byte)
  | startS0 | startS1 | startS2 | startS3 | startS4 | startS5 | startS6 | startS7 | startS8 | startS9 | startS10
  | rdyY0
  | readD0 | readD1 | readD2 | readD3 | readD4 | readD5 | readD6
  | getTempG0 | getRawG0 | getAddrG0 | isReadingG0
  deriving DecidableEq, Repr

/-- What the host delivers, each once the block is in IDLE (log 10, log 11). -/
inductive HostInput where
  /-- A command word (30_encoding.md R50). -/
  | command (word : Command)
  /-- A pulse on the reset input (70_reset_and_hazards.md R141). -/
  | reset
  /-- A command word, and the reset input asserted while that command is in progress (70_reset_and_hazards.md R141). -/
  | commandCutByReset (word : Command)
  deriving DecidableEq, Repr

/-- What the host has seen: the outputs of one ended command (`cmd` is `none` for a word that selects no command), or
that the block was reset (30_encoding.md R55, R56; 70_reset_and_hazards.md R154). -/
inductive Record where
  | completed (cmd : Option Instr) (result : Result) (err : Err)
  | reset
  deriving DecidableEq, Repr

/-- The mode of the block, a function of BOUND and CIP (10_state.md R19). -/
inductive Mode where
  | uninit
  | idleMode
  | converting
  deriving DecidableEq, Repr

/-- The state. The first seven fields are the spec's (10_state.md R10); the others are the model's own, named in
INVENTORY.md. -/
structure State where
  /-- ADDRESS (10_state.md R11). -/
  address    : Address
  /-- BOUND (10_state.md R12). -/
  bound      : Bool
  /-- RESOLUTION (10_state.md R13). -/
  resolution : Byte
  /-- RAW (10_state.md R14). -/
  raw        : RawPayload
  /-- TEMP (10_state.md R15). -/
  temp       : Q4
  /-- CIP (10_state.md R16). -/
  cip        : Bool
  /-- SEQ (10_state.md R17). -/
  seq        : Seq
  /-- What the host delivers, next first (log 10). -/
  inputs     : List HostInput
  /-- Answers prepared for the coming `Bus.reset` calls, next first (log 2). -/
  presences  : List Bool
  /-- Answers prepared for the coming `Bus.read` calls, next first (log 2). -/
  bytes      : List Byte
  /-- Answers prepared for the coming `Bus.search` calls, next first (log 2). -/
  finds      : List (Option Address)
  /-- The counter the free values are applied to (log 7). -/
  draws      : Nat
  /-- A READ has completed since reset, so RAW is specified (10_state.md R14; log 6). -/
  rawKnown   : Bool
  /-- Every bus call made, oldest first (20_memory.md R39; log 12). -/
  trace      : List BusEvent
  /-- Every command ended, oldest first (70_reset_and_hazards.md R154; log 12). -/
  history    : List Record
  deriving DecidableEq, Repr

/-- The reasons of the reading in which the block's two errors are faults (00_scope.md R8). Closed: `step` and `exec`
raise neither, for the block goes on after both (60_exceptions.md R129; log 1). -/
inductive Fault where
  /-- START or READ with BOUND = 0 (60_exceptions.md R122). Raised by `Safety.checkedStep` only. Safe: it stops where
  the block goes on. -/
  | notInitialized
  /-- A word that selects no command (60_exceptions.md R124). Raised by `Safety.checkedStep` only. Safe: it stops where
  the block goes on. -/
  | illegalCommand
  deriving DecidableEq, Repr

/-- The reasons a step is refused. Closed. -/
inductive Refusal where
  /-- An arm of `exec` without a meaning. Raised by no arm of this model. Safe: the model stops. -/
  | notModelled (mnemonic : String)
  /-- Reset asserted while a command is in progress: "a model should refuse such a run and give it no meaning"
  (70_reset_and_hazards.md R141). Raised by `step` on the input `commandCutByReset`. Safe: the model stops. -/
  | resetDuringCommand
  deriving DecidableEq, Repr

/-- The state after reset (70_reset_and_hazards.md R140). ADDRESS and RAW, unspecified in the spec, hold the first ten
free values (log 5); nothing is delivered, prepared or recorded. -/
def State.reset : State where
  address    := Config.anyAddress 0
  bound      := false
  resolution := 0x2F
  raw        := Config.anyRaw 8
  temp       := 0x0000
  cip        := false
  seq        := .idle
  inputs     := []
  presences  := []
  bytes      := []
  finds      := []
  draws      := 10
  rawKnown   := false
  trace      := []
  history    := []

end Sys2Proof.Machine
end

