-- ==== Sys2Proof/Machine/Converter.lean ====
section
/-! DEFINITION. The fixed-point Celsius converter, the function READ applies at step D6 (43_celsius_converter.md), and
the value a TEMP stands for. -/

namespace Sys2Proof.Machine

/-- `raw16 = {high, low}` (43_celsius_converter.md R100). -/
def raw16 (r : RawPayload) : Q4 := r.high ++ r.low

/-- The converter: the 16 bits unchanged (43_celsius_converter.md R101). -/
def convert (r : RawPayload) : Q4 := raw16 r

/-- `celsius(TEMP) = signed_16(TEMP) / 16`, in degrees Celsius (43_celsius_converter.md R102). -/
def celsius (t : Q4) : ℚ := (t.toInt : ℚ) / 16

/-- `INT(TEMP)`, an arithmetic shift by four (43_celsius_converter.md R106). -/
def intView (t : Q4) : Int := (t.sshiftRight 4).toInt

/-- `FRAC(TEMP) = TEMP[3:0]`, in sixteenths (43_celsius_converter.md R106). -/
def fracView (t : Q4) : Nat := (t.extractLsb' 0 4).toNat

/-- A rational is `m * 2^e` with a significand of at most `p` bits and `minExp ≤ e ≤ maxExp`: what it takes to be a
finite number of a binary floating-point format (43_celsius_converter.md R104, 93_implementation_defined.md G6). -/
def representable (p : Nat) (minExp maxExp : Int) (q : ℚ) : Prop :=
  ∃ m e : Int, m.natAbs < 2 ^ p ∧ minExp ≤ e ∧ e ≤ maxExp ∧ q = (m : ℚ) * (2 : ℚ) ^ e

end Sys2Proof.Machine
end

