-- ==== Sys2Proof/Machine/Flags.lean ====
section
/-! DEFINITION. The two flags of the block, BOUND and CIP, and the mode they make up (10_state.md R12, R16, R19, R21). -/

namespace Sys2Proof.Machine

/-- BOUND <- 1 with the candidate stored (40_discovery.md R70, B2). -/
def State.bindTo (s : State) (cand : Address) : State := { s with address := cand, bound := true }

/-- BOUND <- 0, every byte of ADDRESS a fresh draw (40_discovery.md R70, FAIL). -/
def State.unbind (s : State) : State :=
  { s with address := Config.anyAddress s.draws, bound := false, draws := s.draws + 8 }

/-- CIP <- v (42_conversion_sequence.md R85 S10, R87 D1). -/
def State.setCip (s : State) (v : Bool) : State := { s with cip := v }

/-- MODE (10_state.md R19). -/
def State.mode (s : State) : Mode :=
  match s.bound, s.cip with
  | false, _ => .uninit
  | true, false => .idleMode
  | true, true => .converting

end Sys2Proof.Machine
end

