-- ==== Sys2Proof/Machine/Operands.lean ====
section
/-! DEFINITION. The constants and codes of 30_encoding.md, how a value is laid out in RESULT (R55), and the two views of
a record: the call behind a bus event, the code behind an ERR name. -/

namespace Sys2Proof.Machine

/-- WRITE_SCRATCHPAD (30_encoding.md R57). -/
def writeScratchpad : Byte := 0x4E
/-- COPY_SCRATCHPAD (30_encoding.md R57). -/
def copyScratchpad : Byte := 0x48
/-- CONVERT_TEMPERATURE (30_encoding.md R57). -/
def convertTemperature : Byte := 0x44
/-- READ_SCRATCHPAD (30_encoding.md R57). -/
def readScratchpad : Byte := 0xBE
/-- The alarm-threshold placeholder, always zero (30_encoding.md R60). -/
def alarmPlaceholder : Byte := 0x00

/-- The resolutions the source names (30_encoding.md R58). -/
inductive Resolution where
  | bits9
  | bits10
  | bits11
  | bits12
  deriving DecidableEq, Repr

/-- The configuration byte of each resolution, an opaque code (30_encoding.md R58). -/
def resolutionCode : Resolution → Byte
  | .bits9  => 0x1F
  | .bits10 => 0x2F
  | .bits11 => 0x3F
  | .bits12 => 0x7F

/-- ERR as a number (30_encoding.md R56). -/
def errCode : Err → BitVec 3
  | .ok                   => 0
  | .noDevice             => 1
  | .notInitialized       => 2
  | .invalidConfiguration => 3
  | .illegalCommand       => 4

/-- BUS_OP (30_encoding.md R59). -/
def busOp : BusCall → BitVec 3
  | .reset    => 0
  | .select _ => 1
  | .write _  => 2
  | .read     => 3
  | .search   => 4
  | .crc8 _ _ => 5

/-- The call behind an event, without its answer (20_memory.md R31). -/
def busCallOf : BusEvent → BusCall
  | .reset _     => .reset
  | .select a    => .select a
  | .write b     => .write b
  | .read _      => .read
  | .search _    => .search
  | .crc8 bs n _ => .crc8 bs n

/-- `cand[0..6]`, what BEGIN passes to `crc8` (40_discovery.md R70). -/
def firstSeven (a : Address) : List Byte := [a[0], a[1], a[2], a[3], a[4], a[5], a[6]]

/-- `crc8(cand[0..6], 7)` (40_discovery.md R70, 20_memory.md R32). -/
def crcOf (a : Address) : Byte := Config.crc8 (firstSeven a) 7

/-- RESULT of a one-bit value (30_encoding.md R55). -/
def resultOfBit (b : Bool) : Result := if b then 1 else 0

/-- RESULT of a byte: `RESULT[7:0]`, zeros above (30_encoding.md R55). -/
def resultOfByte (b : Byte) : Result := b.setWidth 64

/-- RESULT of a temperature: `RESULT[15:0]`, zeros above, the sign not extended (30_encoding.md R55). -/
def resultOfTemp (t : Q4) : Result := t.setWidth 64

/-- RESULT of the raw payload: `RESULT[7:0] = RAW[0]`, `RESULT[15:8] = RAW[1]`, zeros above (30_encoding.md R55). -/
def resultOfRaw (r : RawPayload) : Result := (r.high ++ r.low).setWidth 64

/-- RESULT of an address: `RESULT[8i+7 : 8i] = ADDRESS[i]` (30_encoding.md R55, 44_accessors.md R112). -/
def resultOfAddress (a : Address) : Result :=
  a[7] ++ a[6] ++ a[5] ++ a[4] ++ a[3] ++ a[2] ++ a[1] ++ a[0]

/-- The host's ready predicate, `RESULT[7:0] != 0x00` (42_conversion_sequence.md R86). The block never evaluates it. -/
def hostReady (r : Result) : Bool := r.extractLsb' 0 8 != 0x00

end Sys2Proof.Machine
end

