-- ==== Sys2Proof/Machine/Ops.lean ====
section
/-! DEFINITION. The shared operations: the six bus calls with their answers, the register writes, how a command ends,
how an error is taken, and the reset input. -/

namespace Sys2Proof.Machine

/-- The answer to a `Bus.reset()`: the one prepared, else a draw (20_memory.md R32). -/
def presenceAnswer : List Bool → Nat → Bool
  | p :: _, _ => p
  | [], n => Config.busPresence n

/-- The answer to a `Bus.read()`: the one prepared, else a draw (20_memory.md R32). -/
def byteAnswer : List Byte → Nat → Byte
  | b :: _, _ => b
  | [], n => Config.busByte n

/-- The answer to a `Bus.search()`: the one prepared, else a draw (20_memory.md R32). -/
def searchAnswer : List (Option Address) → Nat → Option Address
  | a :: _, _ => a
  | [], n => Config.busSearch n

/-- What a `Bus.reset()` made now answers. -/
def State.nextPresence (s : State) : Bool := presenceAnswer s.presences s.draws

/-- What a `Bus.read()` made now answers. -/
def State.nextByte (s : State) : Byte := byteAnswer s.bytes s.draws

/-- What a `Bus.search()` made now answers. -/
def State.nextSearch (s : State) : Option Address := searchAnswer s.finds s.draws

/-- `Bus.reset()` made; its answer is `s.nextPresence` (20_memory.md R31, R39). -/
def State.busReset (s : State) : State :=
  { s with presences := s.presences.tail, draws := s.draws + 1, trace := s.trace ++ [.reset s.nextPresence] }

/-- `Bus.select(a)` (20_memory.md R31, R39). -/
def State.busSelect (s : State) (a : Address) : State := { s with trace := s.trace ++ [.select a] }

/-- `Bus.write(b)` (20_memory.md R31, R39). -/
def State.busWrite (s : State) (b : Byte) : State := { s with trace := s.trace ++ [.write b] }

/-- `Bus.read()` made; its answer is `s.nextByte` (20_memory.md R31, R39). -/
def State.busRead (s : State) : State :=
  { s with bytes := s.bytes.tail, draws := s.draws + 1, trace := s.trace ++ [.read s.nextByte] }

/-- `Bus.search()` made; its answer is `s.nextSearch` (20_memory.md R31, R39). -/
def State.busSearch (s : State) : State :=
  { s with finds := s.finds.tail, draws := s.draws + 1, trace := s.trace ++ [.search s.nextSearch] }

/-- `Bus.crc8(cand[0..6], 7)` made; its answer is `crcOf cand` (20_memory.md R32, 40_discovery.md R70). -/
def State.busCrc8 (s : State) (cand : Address) : State :=
  { s with trace := s.trace ++ [.crc8 (firstSeven cand) 7 (crcOf cand)] }

/-- RESOLUTION <- b (41_resolution_config.md R80). -/
def State.setResolution (s : State) (b : Byte) : State := { s with resolution := b }

/-- RAW[0] <- b (42_conversion_sequence.md R87, D5). -/
def State.setRawLow (s : State) (b : Byte) : State := { s with raw := { s.raw with low := b } }

/-- RAW[1] <- b (42_conversion_sequence.md R87, D6). -/
def State.setRawHigh (s : State) (b : Byte) : State := { s with raw := { s.raw with high := b } }

/-- TEMP <- the converted RAW, which is specified from here on (42_conversion_sequence.md R87, D6; log 6). -/
def State.latchTemp (s : State) : State := { s with temp := convert s.raw, rawKnown := true }

/-- `n` draws taken (log 7). -/
def State.drawn (s : State) (n : Nat) : State := { s with draws := s.draws + n }

/-- SEQ <- label (10_state.md R18(b)). -/
def State.goto (s : State) (label : Seq) : State := { s with seq := label }

/-- `done(result, err)`: the outputs set, SEQ <- IDLE (00_scope.md R7). -/
def State.complete (s : State) (cmd : Option Instr) (result : Result) (err : Err) : State :=
  { s with seq := .idle, history := s.history ++ [.completed cmd result err] }

/-- Taking an error: `done(0, err)` and nothing else; nothing is saved, no mode changes, control goes nowhere, and there
is no return (60_exceptions.md R128, R129). -/
def State.raiseError (s : State) (cmd : Option Instr) (err : Err) : State := s.complete cmd 0 err

/-- The FAIL exit of BEGIN: unbound, RESULT 0, E_NO_DEVICE (40_discovery.md R70). -/
def State.failDiscovery (s : State) : State := s.unbind.complete (some .begin) 0 .noDevice

/-- The ADDRESS a reader sees: the register when it is specified, else a fresh draw (44_accessors.md R112,
92_eei_decisions.md D29). -/
def State.addressSeen (s : State) : Address := if s.bound then s.address else Config.anyAddress s.draws

/-- The RAW a reader sees: the register when it is specified, else a fresh draw (44_accessors.md R111, 10_state.md R14). -/
def State.rawSeen (s : State) : RawPayload := if s.rawKnown then s.raw else Config.anyRaw s.draws

/-- The reset input, in IDLE: the registers at the values of 70_reset_and_hazards.md R140; the host's further inputs and
everything on the capability's side survive (R141; log 11). -/
def State.pulseReset (s : State) : State :=
  { s with
    address    := Config.anyAddress s.draws
    bound      := false
    resolution := 0x2F
    raw        := Config.anyRaw (s.draws + 8)
    temp       := 0x0000
    cip        := false
    seq        := .idle
    draws      := s.draws + 10
    rawKnown   := false
    history    := s.history ++ [.reset] }

end Sys2Proof.Machine
end

