-- ==== Sys2Proof/Machine/Accessors.lean ====
section
/-! DEFINITION. The cached accessors: GETTEMP, GETRAW, GETADDR, ISREADING (44_accessors.md R110 to R114). -/

namespace Sys2Proof.Machine

/-- GETTEMP (44_accessors.md R110). -/
def execGetTemp (s : State) : Host.Outcome State Fault Refusal :=
  .next (s.complete (some .getTemp) (resultOfTemp s.temp) .ok)

/-- GETRAW: a draw while RAW is unspecified (44_accessors.md R111). -/
def execGetRaw (s : State) : Host.Outcome State Fault Refusal :=
  .next ((s.drawn (if s.rawKnown then 0 else 2)).complete (some .getRaw) (resultOfRaw s.rawSeen) .ok)

/-- GETADDR: a draw while ADDRESS is unspecified (44_accessors.md R112). -/
def execGetAddr (s : State) : Host.Outcome State Fault Refusal :=
  .next ((s.drawn (if s.bound then 0 else 8)).complete (some .getAddr) (resultOfAddress s.addressSeen) .ok)

/-- ISREADING (44_accessors.md R113). -/
def execIsReading (s : State) : Host.Outcome State Fault Refusal :=
  .next (s.complete (some .isReading) (resultOfBit s.cip) .ok)

end Sys2Proof.Machine
end

