-- ==== Sys2Proof/Machine/Conversion.lean ====
section
/-! DEFINITION. The measurement family: START, RDY, READ (42_conversion_sequence.md). -/

namespace Sys2Proof.Machine

/-- START from step S1, when BOUND = 1 (42_conversion_sequence.md R85). -/
def startSequence (s : State) : State :=
  s.busReset
    |>.busSelect s.address
    |>.busWrite writeScratchpad
    |>.busWrite alarmPlaceholder
    |>.busWrite alarmPlaceholder
    |>.busWrite s.resolution
    |>.busWrite copyScratchpad
    |>.busReset
    |>.busSelect s.address
    |>.busWrite convertTemperature
    |>.setCip true
    |>.complete (some .start) 0 .ok

/-- START (42_conversion_sequence.md R85). -/
def execStart (s : State) : Host.Outcome State Fault Refusal :=
  .next (if s.bound then startSequence s else s.raiseError (some .start) .notInitialized)

/-- RDY: one read, its byte unchanged (42_conversion_sequence.md R86). -/
def execRdy (s : State) : Host.Outcome State Fault Refusal :=
  .next (s.busRead.complete (some .rdy) (resultOfByte s.nextByte) .ok)

/-- READ from step D1, when BOUND = 1 (42_conversion_sequence.md R87). -/
def readSequence (s : State) : State :=
  let s₄ := (s.setCip false).busReset |>.busSelect s.address |>.busWrite readScratchpad
  let s₅ := s₄.busRead.setRawLow s₄.nextByte
  let s₆ := (s₅.busRead.setRawHigh s₅.nextByte).latchTemp
  s₆.complete (some .read) (resultOfTemp s₆.temp) .ok

/-- READ (42_conversion_sequence.md R87). -/
def execRead (s : State) : Host.Outcome State Fault Refusal :=
  .next (if s.bound then readSequence s else s.raiseError (some .read) .notInitialized)

end Sys2Proof.Machine
end

