-- ==== Sys2Proof/Machine/Discovery.lean ====
section
/-! DEFINITION. The discovery family: BEGIN (40_discovery.md). -/

namespace Sys2Proof.Machine

/-- BEGIN from step B2: the CRC check of the candidate (40_discovery.md R70, R71). -/
def checkCandidate (s : State) (cand : Address) : State :=
  let s₁ := s.busCrc8 cand
  if crcOf cand = cand[7] then (s₁.bindTo cand).complete (some .begin) 1 .ok else s₁.failDiscovery

/-- BEGIN from step B1: one search, its first answer decides (40_discovery.md R70, R72). -/
def searchOnce (s : State) : State :=
  match s.nextSearch with
  | none => s.busSearch.failDiscovery
  | some cand => checkCandidate s.busSearch cand

/-- BEGIN (40_discovery.md R70). -/
def execBegin (s : State) : Host.Outcome State Fault Refusal :=
  .next (if s.nextPresence then searchOnce s.busReset else s.busReset.failDiscovery)

end Sys2Proof.Machine
end

