-- ==== Sys2Proof/Machine/Resolution.lean ====
section
/-! DEFINITION. The configuration family: SETP (41_resolution_config.md). -/

namespace Sys2Proof.Machine

/-- SETP: the operand stored as written, whatever it is (41_resolution_config.md R80). -/
def execSetp (imm8 : Byte) (s : State) : Host.Outcome State Fault Refusal :=
  .next ((s.setResolution imm8).complete (some (.setp imm8)) 0 .ok)

end Sys2Proof.Machine
end

