-- ==== Sys2Proof/Machine/Dispatch.lean ====
section
/-! DEFINITION. `exec`: one arm per command, each one call of its meaning. -/

namespace Sys2Proof.Machine

/-- One command, from its acceptance to IDLE, as one step (10_state.md R18(d), 92_eei_decisions.md D17). -/
def exec (i : Instr) (s : State) : Host.Outcome State Fault Refusal :=
  match i with
  | .begin => Sys2Proof.Machine.execBegin s
  | .setp imm8 => Sys2Proof.Machine.execSetp imm8 s
  | .start => Sys2Proof.Machine.execStart s
  | .rdy => Sys2Proof.Machine.execRdy s
  | .read => Sys2Proof.Machine.execRead s
  | .getTemp => Sys2Proof.Machine.execGetTemp s
  | .getRaw => Sys2Proof.Machine.execGetRaw s
  | .getAddr => Sys2Proof.Machine.execGetAddr s
  | .isReading => Sys2Proof.Machine.execIsReading s

end Sys2Proof.Machine
end

