-- ==== Sys2Proof/Machine/Sequencer.lean ====
section
/-! DEFINITION. The micro-sequencer (10_state.md R17, R18): the same nine commands one labelled statement at a time, in
the words of the pseudocode of R70, R80, R85 to R87 and R110 to R113; what the block takes from the host in IDLE; and
the machine at the grain of one label per step. -/

namespace Sys2Proof.Machine

/-- `<command>.<first step>` (10_state.md R17). -/
def firstLabel : Instr → Seq
  | .begin     => .beginB0
  | .setp imm8 => .setpP0 imm8
  | .start     => .startS0
  | .rdy       => .rdyY0
  | .read      => .readD0
  | .getTemp   => .getTempG0
  | .getRaw    => .getRawG0
  | .getAddr   => .getAddrG0
  | .isReading => .isReadingG0

/-- The statement SEQ stands at, then the move to the next label, or to IDLE (10_state.md R18(b), (c)). In IDLE there is
no statement to run. -/
def microStep (s : State) : State :=
  match s.seq with
  | .idle => s
  -- BEGIN, 40_discovery.md R70
  | .beginB0 => if s.nextPresence then s.busReset.goto .beginB1 else s.busReset.failDiscovery
  | .beginB1 =>
    match s.nextSearch with
    | none => s.busSearch.failDiscovery
    | some cand => s.busSearch.goto (.beginB2 cand)
  | .beginB2 cand =>
    if crcOf cand = cand[7] then ((s.busCrc8 cand).bindTo cand).complete (some .begin) 1 .ok
    else (s.busCrc8 cand).failDiscovery
  -- SETP, 41_resolution_config.md R80
  | .setpP0 imm8 => (s.setResolution imm8).complete (some (.setp imm8)) 0 .ok
  -- START, 42_conversion_sequence.md R85
  | .startS0 => if s.bound then s.goto .startS1 else s.raiseError (some .start) .notInitialized
  | .startS1 => s.busReset.goto .startS2
  | .startS2 => (s.busSelect s.address).goto .startS3
  | .startS3 => (s.busWrite writeScratchpad).goto .startS4
  | .startS4 => (s.busWrite alarmPlaceholder).goto .startS5
  | .startS5 => (s.busWrite alarmPlaceholder).goto .startS6
  | .startS6 => (s.busWrite s.resolution).goto .startS7
  | .startS7 => (s.busWrite copyScratchpad).goto .startS8
  | .startS8 => s.busReset.goto .startS9
  | .startS9 => (s.busSelect s.address).goto .startS10
  | .startS10 => ((s.busWrite convertTemperature).setCip true).complete (some .start) 0 .ok
  -- RDY, 42_conversion_sequence.md R86
  | .rdyY0 => s.busRead.complete (some .rdy) (resultOfByte s.nextByte) .ok
  -- READ, 42_conversion_sequence.md R87
  | .readD0 => if s.bound then s.goto .readD1 else s.raiseError (some .read) .notInitialized
  | .readD1 => (s.setCip false).goto .readD2
  | .readD2 => s.busReset.goto .readD3
  | .readD3 => (s.busSelect s.address).goto .readD4
  | .readD4 => (s.busWrite readScratchpad).goto .readD5
  | .readD5 => (s.busRead.setRawLow s.nextByte).goto .readD6
  | .readD6 =>
    let t := (s.busRead.setRawHigh s.nextByte).latchTemp
    t.complete (some .read) (resultOfTemp t.temp) .ok
  -- the accessors, 44_accessors.md R110 to R113
  | .getTempG0 => s.complete (some .getTemp) (resultOfTemp s.temp) .ok
  | .getRawG0 => (s.drawn (if s.rawKnown then 0 else 2)).complete (some .getRaw) (resultOfRaw s.rawSeen) .ok
  | .getAddrG0 => (s.drawn (if s.bound then 0 else 8)).complete (some .getAddr) (resultOfAddress s.addressSeen) .ok
  | .isReadingG0 => s.complete (some .isReading) (resultOfBit s.cip) .ok

/-- What the block takes from the host in IDLE (10_state.md R18(a)). -/
inductive Taken where
  /-- Nothing is delivered: the block waits (70_reset_and_hazards.md R141). -/
  | nothing
  /-- The reset input. -/
  | reset (s : State)
  /-- A command the host cuts short by the reset input (70_reset_and_hazards.md R141). -/
  | cutByReset
  /-- A word that selects no command (30_encoding.md R53). -/
  | illegal (s : State)
  /-- A command. -/
  | command (i : Instr) (s : State)

/-- The next host input taken and, if it is a word, decoded (10_state.md R18(a)). -/
def take (s : State) : Taken :=
  match s.inputs with
  | [] => .nothing
  | .reset :: rest => .reset { s with inputs := rest }
  | .commandCutByReset _ :: _ => .cutByReset
  | .command w :: rest =>
    match decode w with
    | .ok i => .command i { s with inputs := rest }
    | .error _ => .illegal { s with inputs := rest }

/-- A word that selects no command: E_ILLEGAL_COMMAND, no other effect (60_exceptions.md R124). -/
def illegalWord (s : State) : State := s.raiseError none .illegalCommand

/-- A reset asserted while a command is in progress has no meaning (70_reset_and_hazards.md R141). -/
def refuseReset : Host.Outcome State Fault Refusal := .refused .resetDuringCommand

/-- The machine at the grain of R18: accepting a command only sets SEQ; each further step runs one label, and while SEQ
is not IDLE no input is taken (10_state.md R18(d)). -/
def fineStep (s : State) : Host.Outcome State Fault Refusal :=
  match s.seq with
  | .idle =>
    match take s with
    | .nothing => .next s
    | .reset t => .next t.pulseReset
    | .cutByReset => refuseReset
    | .illegal t => .next (illegalWord t)
    | .command i t => .next (t.goto (firstLabel i))
  | _ => .next (microStep s)

/-- `n` fine steps. -/
def fineRun : Nat → State → Host.Outcome State Fault Refusal
  | 0, s => .next s
  | n + 1, s =>
    match fineStep s with
    | .next t => fineRun n t
    | .fault r => .fault r
    | .refused r => .refused r

end Sys2Proof.Machine
end

