-- ==== Sys2Proof/Machine/Step.lean ====
section
/-! DEFINITION. One step of the machine: in IDLE one host input taken and run to its end (92_eei_decisions.md D17), in
the middle of a command its next labelled statement. -/

namespace Sys2Proof.Machine

/-- One step (10_state.md R18; log 8). -/
def step (s : State) : Host.Outcome State Fault Refusal :=
  match s.seq with
  | .idle =>
    match take s with
    | .nothing => .next s
    | .reset t => .next t.pulseReset
    | .cutByReset => refuseReset
    | .illegal t => .next (illegalWord t)
    | .command i t => exec i t
  | _ => .next (microStep s)

/-- The state with the word `w` as the next host input, in IDLE, where `step` takes it (log 10, log 13). -/
def State.withFetchWord (s : State) (nbits w : Nat) : State :=
  { s with seq := .idle, inputs := .command (tableCommand nbits w) :: s.inputs.tail }

end Sys2Proof.Machine
end

