-- ==== Sys2Proof/Machine/Assembler.lean ====
section
/-! DEFINITION. The assembler of 30_encoding.md R61: from a line of characters to a `Line`, from a `Line` to the command
it stands for. -/

namespace Sys2Proof.Machine

/-- The command of a line; `WAIT` is none of the block's (30_encoding.md R61). -/
def lineCommand : Line → Option Instr
  | .begin        => some .begin
  | .setp operand => some (.setp (BitVec.ofNat 8 operand))
  | .setp9        => some (.setp (resolutionCode .bits9))
  | .setp10       => some (.setp (resolutionCode .bits10))
  | .setp11       => some (.setp (resolutionCode .bits11))
  | .setp12       => some (.setp (resolutionCode .bits12))
  | .start        => some .start
  | .rdy          => some .rdy
  | .read         => some .read
  | .getTemp      => some .getTemp
  | .getRaw       => some .getRaw
  | .getAddr      => some .getAddr
  | .isReading    => some .isReading
  | .wait         => none

/-- A decimal digit. -/
def decDigit (c : Char) : Option Nat :=
  if '0'.toNat ≤ c.toNat ∧ c.toNat ≤ '9'.toNat then some (c.toNat - '0'.toNat) else none

/-- A hexadecimal digit, in either case (log 14). -/
def hexDigit (c : Char) : Option Nat :=
  if 'A'.toNat ≤ c.toNat ∧ c.toNat ≤ 'F'.toNat then some (c.toNat - 'A'.toNat + 10)
  else if 'a'.toNat ≤ c.toNat ∧ c.toNat ≤ 'f'.toNat then some (c.toNat - 'a'.toNat + 10)
  else decDigit c

/-- The number of a list of decimal digits, `acc` in front of them. DESIGN CHOICE: any number of leading zeros is taken
(`007`, `0255`), on which the spec says nothing (log 14). -/
def decimal (acc : Nat) : List Char → Option Nat
  | [] => some acc
  | c :: cs =>
    match decDigit c with
    | some d => decimal (acc * 10 + d) cs
    | none => none

/-- An operand as it is written: `0xHH`, or decimal (30_encoding.md R61), leading zeros and the case of `HH` as log 14
has them. -/
def parseOperand : List Char → Option Nat
  | ['0', 'x', h, l] =>
    match hexDigit h, hexDigit l with
    | some a, some b => some (a * 16 + b)
    | _, _ => none
  | [] => none
  | cs => decimal 0 cs

/-- The lines without operand, by mnemonic (30_encoding.md R51, R61). -/
def bareLines : List (List Char × Line) :=
  [("BEGIN".toList, .begin), ("SETP.9".toList, .setp9), ("SETP.10".toList, .setp10), ("SETP.11".toList, .setp11),
   ("SETP.12".toList, .setp12), ("START".toList, .start), ("RDY".toList, .rdy), ("READ".toList, .read),
   ("GETTEMP".toList, .getTemp), ("GETRAW".toList, .getRaw), ("GETADDR".toList, .getAddr),
   ("ISREADING".toList, .isReading), ("WAIT".toList, .wait)]

/-- The words of a line, separated by spaces (log 14); `word` is the one being read, in reverse. -/
def splitWords (word : List Char) : List Char → List (List Char)
  | [] => if word.isEmpty then [] else [word.reverse]
  | c :: cs =>
    if c = ' ' then (if word.isEmpty then splitWords [] cs else word.reverse :: splitWords [] cs)
    else splitWords (c :: word) cs

/-- What a line of text says. -/
inductive Parsed where
  /-- Nothing but spaces and a comment (log 14). -/
  | blank
  | line (l : Line)
  /-- No line of 30_encoding.md R61. -/
  | bad
  deriving DecidableEq, Repr

/-- One line of text: `;` starts a comment; a mnemonic in upper case, with one operand for SETP alone
(30_encoding.md R61). -/
def parseLine (text : List Char) : Parsed :=
  match splitWords [] (text.takeWhile (· != ';')) with
  | [] => .blank
  | [m] =>
    match bareLines.lookup m with
    | some l => .line l
    | none => .bad
  | [m, x] =>
    match parseOperand x with
    | some n => if m = "SETP".toList ∧ (Line.setp n).wellFormed then .line (.setp n) else .bad
    | none => .bad
  | _ => .bad

/-- A program text, line by line; `none` if a line is bad (log 14). -/
def parseProgram : List (List Char) → Option (List Line)
  | [] => some []
  | text :: rest =>
    match parseLine text, parseProgram rest with
    | .blank, some ls => some ls
    | .line l, some ls => some (l :: ls)
    | _, _ => none

end Sys2Proof.Machine
end

