-- ==== Sys2Proof/Machine/HostProgram.lean ====
section
/-! DEFINITION. The host's side: issuing a command, the `WAIT` loop, running a list of commands, and what a run shows
(30_encoding.md R61, 70_reset_and_hazards.md R154). -/

namespace Sys2Proof.Machine

/-- The RESULT and ERR of one ended command (30_encoding.md R55, R56). -/
def recordOutputs : Record → Option (Result × Err)
  | .completed _ result err => some (result, err)
  | .reset => none

/-- The (RESULT, ERR) pairs, one per command (70_reset_and_hazards.md R154). -/
def State.outputs (s : State) : List (Result × Err) := s.history.filterMap recordOutputs

/-- The outputs of the command that ended last. -/
def State.lastOutputs (s : State) : Option (Result × Err) := s.history.getLast?.bind recordOutputs

/-- The bus calls made, with their arguments (70_reset_and_hazards.md R154). -/
def State.calls (s : State) : List BusCall := s.trace.map busCallOf

/-- The final registers (10_state.md R10). -/
structure Registers where
  address    : Address
  bound      : Bool
  resolution : Byte
  raw        : RawPayload
  temp       : Q4
  cip        : Bool
  deriving DecidableEq, Repr

def State.registers (s : State) : Registers :=
  { address := s.address, bound := s.bound, resolution := s.resolution, raw := s.raw, temp := s.temp, cip := s.cip }

/-- The observable outcome of a run (70_reset_and_hazards.md R154). -/
structure Observed where
  outputs   : List (Result × Err)
  calls     : List BusCall
  registers : Registers
  deriving DecidableEq, Repr

def State.observed (s : State) : Observed := { outputs := s.outputs, calls := s.calls, registers := s.registers }

/-- The host delivers `w` and the block runs it to its end (30_encoding.md R50). -/
def issue (w : Command) (s : State) : Host.Outcome State Fault Refusal :=
  step { s with inputs := .command w :: s.inputs }

/-- The commands of a run, one after another (70_reset_and_hazards.md R154). -/
def runCommands : List Command → State → Host.Outcome State Fault Refusal
  | [], s => .next s
  | w :: ws, s =>
    match issue w s with
    | .next t => runCommands ws t
    | .fault r => .fault r
    | .refused r => .refused r

/-- What a host loop comes to. -/
inductive Waited where
  /-- RDY answered ready; the loop is left. -/
  | ready (s : State)
  /-- The host gave up; the bound is the host's own (70_reset_and_hazards.md R151; log 16). -/
  | gaveUp (s : State)
  /-- A step stopped. -/
  | stopped
  deriving DecidableEq, Repr

/-- `WAIT`: "issue RDY (0x400) repeatedly until `RESULT[7:0] != 0x00`", at most `n` times (30_encoding.md R61). -/
def waitReady : Nat → State → Waited
  | 0, s => .gaveUp s
  | n + 1, s =>
    match issue (encode .rdy) s with
    | .next t =>
      match t.lastOutputs with
      | some (result, _) => if hostReady result then .ready t else waitReady n t
      | none => .stopped
    | _ => .stopped

/-- A host program: each line its command, `WAIT` its loop of at most `bound` passes (30_encoding.md R61). `none` when a
step stops or the host gives up. -/
def runLines (bound : Nat) : List Line → State → Option State
  | [], s => some s
  | l :: ls, s =>
    match lineCommand l with
    | some i =>
      match issue (encode i) s with
      | .next t => runLines bound ls t
      | _ => none
    | none =>
      match waitReady bound s with
      | .ready t => runLines bound ls t
      | _ => none

/-- The measurement cycle the source intends (42_conversion_sequence.md R92): SETP if wanted, START, WAIT, READ. -/
def measurementCycle : Option Byte → List Line
  | none => [.start, .wait, .read]
  | some code => [.setp code.toNat, .start, .wait, .read]

/-- What the host does from reset for a first reading: BEGIN, its `RESULT[0] = 1` checked, then the measurement cycle
(70_reset_and_hazards.md R142). `none` when BEGIN fails, the host gives up waiting, or a step stops. -/
def firstMeasurement (bound : Nat) (code : Option Byte) (s : State) : Option State :=
  match issue (encode .begin) s with
  | .next t => if t.lastOutputs = some (1, .ok) then runLines bound (measurementCycle code) t else none
  | _ => none

end Sys2Proof.Machine
end

