-- ==== Sys2Proof/Safety.lean ====
section
/-! DEFINITION. What claims are stated in: the registers a history amounts to (10_state.md R23), the invariant of the
machine, the reading in which the block's two errors are faults (00_scope.md R8), and the caller's duty before READ
(70_reset_and_hazards.md R143). -/

namespace Sys2Proof.Safety

open Sys2Proof.Machine

/-- What one record does to RESOLUTION (10_state.md R23(c)). -/
def noteResolution (r : Byte) : Record → Byte
  | .reset => 0x2F
  | .completed (some (.setp x)) _ _ => x
  | _ => r

/-- RESOLUTION as the history has it: "the operand of the last SETP since reset, or 0x2F if there was none"
(10_state.md R23(c)). -/
def resolutionAfter (h : List Record) : Byte := h.foldl noteResolution 0x2F

/-- What one record does to CIP (10_state.md R23(d)). -/
def noteCip (v : Bool) : Record → Bool
  | .reset => false
  | .completed (some .start) _ .ok => true
  | .completed (some .read) _ .ok => false
  | _ => v

/-- CIP as the history has it: a START ended with E_OK since reset and no READ after it (10_state.md R23(d)). -/
def cipAfter (h : List Record) : Bool := h.foldl noteCip false

/-- What one record says of a completed READ (10_state.md R23(b)). -/
def noteRead (v : Bool) : Record → Bool
  | .reset => false
  | .completed (some .read) _ .ok => true
  | _ => v

/-- "At least one READ has completed with E_OK since reset" (10_state.md R23(b)). -/
def readCompleted (h : List Record) : Bool := h.foldl noteRead false

/-- What one record does to BOUND (10_state.md R12). -/
def noteBound (v : Bool) : Record → Bool
  | .reset => false
  | .completed (some .begin) _ err => err == .ok
  | _ => v

/-- BOUND as the history has it: the outcome of the most recent BEGIN since reset (10_state.md R12). -/
def boundAfter (h : List Record) : Bool := h.foldl noteBound false

/-- What one record does to the resolution byte in force and the one last sent (41_resolution_config.md R81). -/
def noteSent (p : Byte × Option Byte) : Record → Byte × Option Byte
  | .reset => (0x2F, none)
  | .completed (some (.setp x)) _ _ => (x, p.2)
  | .completed (some .start) _ .ok => (p.1, some p.1)
  | _ => p

/-- The resolution byte now and the one the last START since reset sent (41_resolution_config.md R81). -/
def sentAfter (h : List Record) : Byte × Option Byte := h.foldl noteSent (0x2F, none)

/-- What one record does to the stretch in which a RDY means something: a START opens it, the READ that follows closes
it (70_reset_and_hazards.md R151), and so does a BEGIN, whose `Bus.reset` changes what RDY reads (R145; log 19). A START
or READ that ended in E_NOT_INITIALIZED did nothing, so it neither opens nor closes. -/
def noteRdyWindow (v : Bool) : Record → Bool
  | .reset => false
  | .completed (some .start) _ .ok => true
  | .completed (some .read) _ .ok => false
  | .completed (some .begin) _ _ => false
  | _ => v

/-- A RDY issued now means something: "between a START and the READ that follows it" (70_reset_and_hazards.md R151). -/
def rdyMeaningful (h : List Record) : Bool := h.foldl noteRdyWindow false

/-- What one record does to the two: a RDY means something, and one that did has answered ready since the last START
(70_reset_and_hazards.md R143, R151). -/
def notePolled (p : Bool × Bool) (r : Record) : Bool × Bool :=
  (noteRdyWindow p.1 r,
   match r with
   | .reset => false
   | .completed (some .start) _ .ok => false
   | .completed (some .rdy) result _ => p.2 || (p.1 && hostReady result)
   | _ => p.2)

/-- A RDY between the last START and the READ that follows it has answered ready (70_reset_and_hazards.md R143, R151). -/
def polledReady (h : List Record) : Bool := (h.foldl notePolled (false, false)).2

/-- The caller's duty before READ, by either accepted way: RDY polled until ready where RDY means something, or `T_CONV`
of the byte START sent has passed (70_reset_and_hazards.md R143, R151). The block checks neither. -/
def waitHonoured (h : List Record) (elapsed : Nat) : Prop :=
  ∃ sent, (sentAfter h).2 = some sent ∧ (polledReady h = true ∨ Config.tConv sent ≤ elapsed)

/-- START or READ stands past its check of BOUND, so ADDRESS may go out on the bus. -/
def pastBoundCheck : Seq → Bool
  | .startS1 | .startS2 | .startS3 | .startS4 | .startS5 | .startS6 | .startS7 | .startS8 | .startS9 | .startS10
  | .readD1 | .readD2 | .readD3 | .readD4 | .readD5 | .readD6 => true
  | _ => false

/-- READ stands after D1, which has cleared CIP. -/
def pastCipClear : Seq → Bool
  | .readD2 | .readD3 | .readD4 | .readD5 | .readD6 => true
  | _ => false

/-- The invariant of the machine, in the middle of a command too: 10_state.md R23(a) to (d), BOUND as BEGIN left it
(R12), TEMP at its reset value until the first READ (R15), and SEQ past the check of BOUND only when bound. While READ
stands between D5 and D6 RAW is half overwritten, and from D1 on CIP is cleared ahead of READ's record. -/
structure Inv (s : State) : Prop where
  addressPassesCrc : s.bound = true → s.address[7] = crcOf s.address
  boundIsRecorded : s.bound = boundAfter s.history
  boundPastCheck : pastBoundCheck s.seq = true → s.bound = true
  rawKnownIsRecorded : s.rawKnown = readCompleted s.history
  tempIsRaw : s.rawKnown = true → s.seq ≠ .readD6 → s.temp = s.raw.high ++ s.raw.low
  tempBeforeRead : s.rawKnown = false → s.temp = 0
  resolutionIsRecorded : s.resolution = resolutionAfter s.history
  cipIsRecorded : s.cip = (!pastCipClear s.seq && cipAfter s.history)

/-- The record a step adds is one of the block's two faults (00_scope.md R8). -/
def recordFault : Record → Option Fault
  | .completed _ _ .notInitialized => some .notInitialized
  | .completed _ _ .illegalCommand => some .illegalCommand
  | _ => none

/-- The first record after the `n` first that is a fault. -/
def faultSince (n : Nat) (h : List Record) : Option Fault := ((h.drop n).filterMap recordFault).head?

/-- The never-cleared fault mark "above the block" (60_exceptions.md R129): some command of the run ended in one of the
two faults. -/
def faulted (s : State) : Bool := (faultSince 0 s.history).isSome

/-- `step` in the reading of 00_scope.md R8 and 93_implementation_defined.md U2, U12: the two errors stop the run. -/
def checkedStep (s : State) : Host.Outcome State Fault Refusal :=
  match step s with
  | .next t =>
    match faultSince s.history.length t.history with
    | some f => .fault f
    | none => .next t
  | .fault f => .fault f
  | .refused r => .refused r

end Sys2Proof.Safety
end

