-- ==== Sys2Proof/Certificates/Slice0/Obligations.lean ====
section
/-! DEFINITION. The statements for the provers. Each docstring names the rule of the spec it formalises; a statement
that mentions a free value (`Config.…`) or a prepared answer holds for every value of it. -/

section
open Sys2Proof Sys2Proof.Machine Sys2Proof.Safety

/-! ## Encoding -/

/-- R51, R52: the decoder gives back every encoded command, and for the eight commands without operand the opcode alone
decides: any word with that opcode decodes to the command. -/
def Obligations.DecodeOfEncodeIsTheCommand : Prop :=
  (∀ i : Instr, decode (encode i) = .ok i) ∧
  (∀ (i : Instr) (w : Command), (∀ x, i ≠ .setp x) → opcodeOf w = opcodeOf (encode i) → decode w = .ok i)

/-- R51, R52, R61: encoding what a word decodes to gives the word back for SETP, operand and all, and the word with
`imm8 = 0x00` for a command without operand. -/
def Obligations.EncodeOfDecodeIsTheCanonicalWord : Prop :=
  ∀ (w : Command) (i : Instr), decode w = .ok i →
    (∀ x, i = .setp x → encode i = w ∧ x = imm8Of w) ∧
    ((∀ x, i ≠ .setp x) → encode i = wordOf (opcodeOf w) 0x00)

/-- R51: a word selects the row `w & mask = match`: a word that decodes selects the row of its command and the row of
no command with another opcode, and a word that selects some command's row decodes. -/
def Obligations.WordSelectsExactlyTheRowItDecodesTo : Prop :=
  (∀ (w : Command) (i j : Instr), decode w = .ok i → (j.row.selects w = true ↔ j.row = i.row)) ∧
  (∀ (w : Command) (j : Instr), j.row.selects w = true → ∃ i, decode w = .ok i)

/-- R53: exactly the opcodes 0x0 and 0xA to 0xF select no command; 2304 of the 4096 words are legal. -/
def Obligations.IllegalOpcodesSelectNoCommand : Prop :=
  (∀ w : Command, (∃ e, decode w = .error e) ↔ (opcodeOf w = 0x0 ∨ 0xA ≤ (opcodeOf w).toNat)) ∧
  ((List.range 4096).filter (fun n => (decodeTableWord 12 n).isSome)).length = 2304

/-- R51, R52, R61: words of the spec's tables and the commands they stand for (95_test_vectors.md 2.3, 2.8). -/
def Obligations.SpecWordsDecodeToTheirCommands : Prop :=
  decode 0x100 = .ok .begin ∧ decode 0x1FF = .ok .begin ∧ decode 0x25A = .ok (.setp 0x5A) ∧
  decode 0x3A5 = .ok .start ∧ decode 0x400 = .ok .rdy ∧ decode 0x500 = .ok .read ∧ decode 0x600 = .ok .getTemp ∧
  decode 0x700 = .ok .getRaw ∧ decode 0x800 = .ok .getAddr ∧ decode 0x9FF = .ok .isReading ∧
  decode 0x000 = .error (.illegalOpcode 0x0) ∧ decode 0xA00 = .error (.illegalOpcode 0xA) ∧
  decode 0xFFF = .error (.illegalOpcode 0xF)

/-- R58, R61: the four pseudo-instructions expand to SETP with the source's resolution bytes; `WAIT` is no command. -/
def Obligations.PseudoInstructionsExpandToSetp : Prop :=
  (lineCommand .setp9).map encode = some 0x21F ∧ (lineCommand .setp10).map encode = some 0x22F ∧
  (lineCommand .setp11).map encode = some 0x23F ∧ (lineCommand .setp12).map encode = some 0x27F ∧
  lineCommand .wait = none ∧ ∀ n, n < 256 → (lineCommand (.setp n)).map (fun i => (encode i).toNat) = some (0x200 + n)

/-- R61: the lines of the assembler as they are written, `;` and what follows it dropped, and no operand but SETP's. -/
def Obligations.AssemblerReadsTheLinesOfTheSyntax : Prop :=
  parseLine "BEGIN".toList = .line .begin ∧ parseLine "SETP 0x7F ; twelve bits".toList = .line (.setp 0x7F) ∧
  parseLine "SETP 255".toList = .line (.setp 255) ∧ parseLine "START".toList = .line .start ∧
  parseLine "RDY".toList = .line .rdy ∧ parseLine "READ".toList = .line .read ∧
  parseLine "GETTEMP".toList = .line .getTemp ∧ parseLine "GETRAW".toList = .line .getRaw ∧
  parseLine "GETADDR".toList = .line .getAddr ∧ parseLine "ISREADING".toList = .line .isReading ∧
  parseLine "SETP.9".toList = .line .setp9 ∧ parseLine "SETP.10".toList = .line .setp10 ∧
  parseLine "SETP.11".toList = .line .setp11 ∧ parseLine "SETP.12".toList = .line .setp12 ∧
  parseLine "WAIT".toList = .line .wait ∧ parseLine "SETP 256".toList = .bad ∧ parseLine "SETP".toList = .bad ∧
  parseLine "READ 0x00".toList = .bad ∧ parseLine "begin".toList = .bad

/-- R56, R59: the numbers of the ERR names and of the six bus calls; BUS_OP 6 and 7 and ERR 5 to 7 are never
produced. -/
def Obligations.CodesOfErrorsAndBusCalls : Prop :=
  (errCode .ok = 0 ∧ errCode .noDevice = 1 ∧ errCode .notInitialized = 2 ∧ errCode .invalidConfiguration = 3 ∧
    errCode .illegalCommand = 4) ∧
  (busOp .reset = 0 ∧ (∀ a, busOp (.select a) = 1) ∧ (∀ b, busOp (.write b) = 2) ∧ busOp .read = 3 ∧
    busOp .search = 4 ∧ ∀ bs n, busOp (.crc8 bs n) = 5) ∧
  (∀ e, (errCode e).toNat < 5) ∧ (∀ call, (busOp call).toNat < 6)

/-! ## Steps and reset -/

/-- R18(a): in IDLE the block takes the word the host delivers and runs the command it decodes to. That a step runs
the whole command is the model's grain (log 8). -/
def Obligations.StepRunsTheDecodedCommand : Prop :=
  ∀ (s : State) (w : Command) (rest : List HostInput) (i : Instr),
    s.seq = .idle → s.inputs = .command w :: rest → decode w = .ok i →
    step s = exec i { s with inputs := rest }

/-- R53, R124: a word that selects no command is answered with RESULT 0 and E_ILLEGAL_COMMAND; no register changes, no
bus call is made, SEQ stays IDLE. That the machine goes on is R129 (log 1). -/
def Obligations.IllegalWordIsReportedAndChangesNothing : Prop :=
  ∀ (s : State) (w : Command) (rest : List HostInput),
    s.seq = .idle → s.inputs = .command w :: rest → (opcodeOf w = 0x0 ∨ 0xA ≤ (opcodeOf w).toNat) →
    step s = .next { s with inputs := rest, history := s.history ++ [.completed none 0 .illegalCommand] }

/-- R141: with nothing delivered the block makes no bus call and waits in IDLE (the empty list of inputs is the model's,
log 10). -/
def Obligations.BlockWaitsInIdleWithoutInput : Prop :=
  ∀ s : State, s.seq = .idle → s.inputs = [] → step s = .next s

/-- R140: the state after reset; ADDRESS and RAW, which the spec leaves unspecified, hold free values (log 5). -/
def Obligations.ResetStateIsAsSpecified : Prop :=
  State.reset.bound = false ∧ State.reset.mode = .uninit ∧ State.reset.resolution = 0x2F ∧ State.reset.temp = 0x0000 ∧
  State.reset.cip = false ∧ State.reset.seq = .idle ∧ State.reset.trace = [] ∧
  State.reset.address = Config.anyAddress 0 ∧ State.reset.raw = Config.anyRaw 8

/-- R140, R141: the reset input in IDLE brings the registers to their reset values, makes no bus call and leaves the
capability's side alone (ADDRESS and RAW free values, log 5; reset between commands, log 11). -/
def Obligations.ResetInputBringsTheResetValues : Prop :=
  ∀ (s : State) (rest : List HostInput), s.seq = .idle → s.inputs = .reset :: rest →
    step s = .next { s with
      address := Config.anyAddress s.draws
      bound := false
      resolution := 0x2F
      raw := Config.anyRaw (s.draws + 8)
      temp := 0x0000
      cip := false
      inputs := rest
      draws := s.draws + 10
      rawKnown := false
      history := s.history ++ [.reset] }

/-- R141: a step is refused exactly when the reset input is asserted during a command, and no step faults: no command
and no word is refused (the input `commandCutByReset` is the model's, log 11). -/
def Obligations.OnlyResetDuringACommandStopsAStep : Prop :=
  (∀ (s : State) (r : Refusal), step s = .refused r ↔
    (r = .resetDuringCommand ∧ s.seq = .idle ∧ ∃ w rest, s.inputs = .commandCutByReset w :: rest)) ∧
  (∀ (s : State) (f : Fault), step s ≠ .fault f)

/-! ## BEGIN -/

/-- R70: presence, one candidate, its CRC right: the candidate is stored, BOUND set, RESULT 1, E_OK, and the calls are
`reset`, `search`, `crc8`; nothing else changes. -/
def Obligations.BeginBindsACandidateThatPassesTheCrc : Prop :=
  ∀ (s : State) (cand : Address),
    presenceAnswer s.presences s.draws = true → searchAnswer s.finds (s.draws + 1) = some cand →
    Config.crc8 [cand[0], cand[1], cand[2], cand[3], cand[4], cand[5], cand[6]] 7 = cand[7] →
    exec .begin s = .next { s with
      address := cand
      bound := true
      seq := .idle
      presences := s.presences.tail
      finds := s.finds.tail
      draws := s.draws + 2
      trace := s.trace ++ [.reset true, .search (some cand),
        .crc8 [cand[0], cand[1], cand[2], cand[3], cand[4], cand[5], cand[6]] 7 cand[7]]
      history := s.history ++ [.completed (some .begin) 1 .ok] }

/-- R70: no presence: the one call is `reset`; BOUND cleared, every byte of ADDRESS a free value, RESULT 0,
E_NO_DEVICE; nothing else changes. The counter behind the free bytes is the model's (log 7). -/
def Obligations.BeginFailsWithoutPresence : Prop :=
  ∀ s : State, presenceAnswer s.presences s.draws = false →
    exec .begin s = .next { s with
      address := Config.anyAddress (s.draws + 1)
      bound := false
      seq := .idle
      presences := s.presences.tail
      draws := s.draws + 9
      trace := s.trace ++ [.reset false]
      history := s.history ++ [.completed (some .begin) 0 .noDevice] }

/-- R70: presence, but the search is exhausted: the calls are `reset` and `search`; BOUND cleared, ADDRESS free,
RESULT 0, E_NO_DEVICE; nothing else changes. The counter behind the free bytes is the model's (log 7). -/
def Obligations.BeginFailsWhenTheSearchIsExhausted : Prop :=
  ∀ s : State, presenceAnswer s.presences s.draws = true → searchAnswer s.finds (s.draws + 1) = none →
    exec .begin s = .next { s with
      address := Config.anyAddress (s.draws + 2)
      bound := false
      seq := .idle
      presences := s.presences.tail
      finds := s.finds.tail
      draws := s.draws + 10
      trace := s.trace ++ [.reset true, .search none]
      history := s.history ++ [.completed (some .begin) 0 .noDevice] }

/-- R70, R72: the first candidate's CRC is wrong: the calls are `reset`, `search`, `crc8` and no second `search`; BOUND
cleared, ADDRESS free, RESULT 0, E_NO_DEVICE; nothing else changes. The counter behind the free bytes is the model's (log 7). -/
def Obligations.BeginFailsFastOnACrcMismatch : Prop :=
  ∀ (s : State) (cand : Address),
    presenceAnswer s.presences s.draws = true → searchAnswer s.finds (s.draws + 1) = some cand →
    Config.crc8 [cand[0], cand[1], cand[2], cand[3], cand[4], cand[5], cand[6]] 7 ≠ cand[7] →
    exec .begin s = .next { s with
      address := Config.anyAddress (s.draws + 2)
      bound := false
      seq := .idle
      presences := s.presences.tail
      finds := s.finds.tail
      draws := s.draws + 10
      trace := s.trace ++ [.reset true, .search (some cand),
        .crc8 [cand[0], cand[1], cand[2], cand[3], cand[4], cand[5], cand[6]] 7
          (Config.crc8 [cand[0], cand[1], cand[2], cand[3], cand[4], cand[5], cand[6]] 7)]
      history := s.history ++ [.completed (some .begin) 0 .noDevice] }

/-- R71: the acceptance test of BEGIN is exactly the equality of `crc8(cand[0..6], 7)` and `cand[7]`, of the first
candidate; a prepared sequence of candidates loses only its first element. -/
def Obligations.BeginAcceptsExactlyOnTheCrcTest : Prop :=
  ∀ (s : State) (cand : Address),
    presenceAnswer s.presences s.draws = true → searchAnswer s.finds (s.draws + 1) = some cand →
    ∃ t, exec .begin s = .next t ∧ t.finds = s.finds.tail ∧
      (t.bound = true ↔ Config.crc8 [cand[0], cand[1], cand[2], cand[3], cand[4], cand[5], cand[6]] 7 = cand[7]) ∧
      (t.bound = true → t.address = cand) ∧
      (t.history = s.history ++ [.completed (some .begin) 1 .ok] ∨
        t.history = s.history ++ [.completed (some .begin) 0 .noDevice]) ∧
      (t.history = s.history ++ [.completed (some .begin) 1 .ok] ↔ t.bound = true)

/-! ## SETP -/

/-- R80: RESOLUTION takes the operand as written, whatever it is and whatever the state; RESULT 0, E_OK; no bus call;
nothing else changes. -/
def Obligations.SetpStoresItsOperandAndNothingElse : Prop :=
  ∀ (imm8 : Byte) (s : State),
    exec (.setp imm8) s = .next { s with
      resolution := imm8
      seq := .idle
      history := s.history ++ [.completed (some (.setp imm8)) 0 .ok] }

/-- R81: SETP leaves alone what the last START sent, and a completed START sends the byte in force: the one of the last
SETP, or the reset default. -/
def Obligations.SetpTakesEffectAtTheNextStart : Prop :=
  (∀ (imm8 : Byte) (s t : State), exec (.setp imm8) s = .next t →
    t.trace = s.trace ∧ (sentAfter t.history).2 = (sentAfter s.history).2) ∧
  (∀ s t : State, Inv s → s.bound = true → exec .start s = .next t →
    (sentAfter t.history).2 = some s.resolution ∧ (t.trace.drop s.trace.length)[5]? = some (.write s.resolution))

/-! ## START, RDY, READ -/

/-- R85, R88: START when bound makes exactly its ten calls, in order, with the two answers of `Bus.reset` discarded;
CIP set, RESULT 0, E_OK; nothing else changes. -/
def Obligations.StartSendsExactlyItsTenCalls : Prop :=
  ∀ s : State, s.bound = true →
    exec .start s = .next { s with
      cip := true
      seq := .idle
      presences := s.presences.tail.tail
      draws := s.draws + 2
      trace := s.trace ++
        [.reset (presenceAnswer s.presences s.draws), .select s.address, .write 0x4E, .write 0x00, .write 0x00,
         .write s.resolution, .write 0x48, .reset (presenceAnswer s.presences.tail (s.draws + 1)),
         .select s.address, .write 0x44]
      history := s.history ++ [.completed (some .start) 0 .ok] }

/-- R122, R128: START and READ when not bound end at once with RESULT 0 and E_NOT_INITIALIZED: no bus call, no register
changes, CIP included. That the machine goes on is R129 (log 1). -/
def Obligations.UnboundStartAndReadReportNotInitialized : Prop :=
  ∀ (i : Instr) (s : State), (i = .start ∨ i = .read) → s.bound = false →
    exec i s = .next { s with seq := .idle, history := s.history ++ [.completed (some i) 0 .notInitialized] }

/-- R86: RDY makes one `read` and returns its byte unchanged, zeros above, E_OK, bound or not; it writes no register. -/
def Obligations.RdyReturnsTheByteUnchanged : Prop :=
  ∀ s : State,
    exec .rdy s = .next { s with
      seq := .idle
      bytes := s.bytes.tail
      draws := s.draws + 1
      trace := s.trace ++ [.read (byteAnswer s.bytes s.draws)]
      history := s.history ++ [.completed (some .rdy) ((byteAnswer s.bytes s.draws).setWidth 64) .ok] }

/-- R87, R88: READ when bound makes exactly its five calls, stores the two bytes read, low byte first, sets TEMP to
them unchanged, clears CIP and returns TEMP without extending its sign; nothing else changes. -/
def Obligations.ReadStoresTheTwoBytesRead : Prop :=
  ∀ (s : State) (low high : Byte), s.bound = true →
    byteAnswer s.bytes (s.draws + 1) = low → byteAnswer s.bytes.tail (s.draws + 2) = high →
    exec .read s = .next { s with
      raw := { low := low, high := high }
      temp := high ++ low
      cip := false
      seq := .idle
      presences := s.presences.tail
      bytes := s.bytes.tail.tail
      draws := s.draws + 3
      rawKnown := true
      trace := s.trace ++
        [.reset (presenceAnswer s.presences s.draws), .select s.address, .write 0xBE, .read low, .read high]
      history := s.history ++ [.completed (some .read) (BitVec.setWidth 64 (high ++ low)) .ok] }

/-! ## The accessors -/

/-- R110: GETTEMP returns TEMP in `RESULT[15:0]`, zeros above; nothing changes. -/
def Obligations.GetTempReturnsTemp : Prop :=
  ∀ s : State,
    exec .getTemp s = .next { s with
      seq := .idle
      history := s.history ++ [.completed (some .getTemp) (s.temp.setWidth 64) .ok] }

/-- R111: once a READ has completed GETRAW returns RAW, low byte lowest; nothing changes. -/
def Obligations.GetRawReturnsRawOnceRead : Prop :=
  ∀ s : State, s.rawKnown = true →
    ∃ result : Result, result.extractLsb' 0 8 = s.raw.low ∧ result.extractLsb' 8 8 = s.raw.high ∧
      result.extractLsb' 16 48 = 0 ∧
      exec .getRaw s = .next { s with
        seq := .idle
        history := s.history ++ [.completed (some .getRaw) result .ok] }

/-- R111, R14: before the first completed READ GETRAW completes and returns a draw in `RESULT[15:0]`, zeros above; no
register changes (the draw is a free value, log 6). -/
def Obligations.GetRawDrawsBeforeAnyRead : Prop :=
  ∀ s : State, s.rawKnown = false →
    exec .getRaw s = .next { s with
      seq := .idle
      draws := s.draws + 2
      history := s.history ++ [.completed (some .getRaw)
        (BitVec.setWidth 64 (Config.anyByte (s.draws + 1) ++ Config.anyByte s.draws)) .ok] }

/-- R112: when bound GETADDR returns `RESULT[8i+7 : 8i] = ADDRESS[i]`; nothing changes. -/
def Obligations.GetAddrReturnsTheBoundAddress : Prop :=
  ∀ s : State, s.bound = true →
    ∃ result : Result, (∀ i : Fin 8, result.extractLsb' (8 * i.val) 8 = s.address[i.val]) ∧
      exec .getAddr s = .next { s with
        seq := .idle
        history := s.history ++ [.completed (some .getAddr) result .ok] }

/-- R112, R114: when not bound GETADDR still completes with E_OK and returns a draw; no register changes (the eight
bytes are free values, log 6). -/
def Obligations.GetAddrDrawsWhenUnbound : Prop :=
  ∀ s : State, s.bound = false →
    ∃ result : Result, (∀ i : Fin 8, result.extractLsb' (8 * i.val) 8 = Config.anyByte (s.draws + i.val)) ∧
      exec .getAddr s = .next { s with
        seq := .idle
        draws := s.draws + 8
        history := s.history ++ [.completed (some .getAddr) result .ok] }

/-- R113: ISREADING returns CIP in `RESULT[0]`, zeros above; nothing changes. -/
def Obligations.IsReadingReturnsCip : Prop :=
  ∀ s : State,
    exec .isReading s = .next { s with
      seq := .idle
      history := s.history ++ [.completed (some .isReading) (if s.cip then 1 else 0) .ok] }

/-- R114: the four accessors complete in every mode with E_OK, make no bus call and write no register. -/
def Obligations.AccessorsAreReadsWithoutEffect : Prop :=
  ∀ (i : Instr) (s : State), (i = .getTemp ∨ i = .getRaw ∨ i = .getAddr ∨ i = .isReading) →
    ∃ t result, exec i s = .next t ∧ t.registers = s.registers ∧ t.trace = s.trace ∧ t.rawKnown = s.rawKnown ∧
      t.inputs = s.inputs ∧ t.presences = s.presences ∧ t.bytes = s.bytes ∧ t.finds = s.finds ∧
      t.history = s.history ++ [.completed (some i) result .ok]

/-! ## All commands: completion, frame, mode, calls -/

/-- R18, R55, R120: every command, in every state, ends in IDLE with exactly one RESULT and one ERR; RESULT is 0 unless
ERR is E_OK; E_NO_DEVICE is BEGIN's alone, E_NOT_INITIALIZED is START's and READ's when not bound, and no command ends
with E_INVALID_CONFIGURATION or E_ILLEGAL_COMMAND. -/
def Obligations.EveryCommandEndsWithOneResultAndOneErr : Prop :=
  ∀ (i : Instr) (s : State), ∃ t result err,
    exec i s = .next t ∧ t.seq = .idle ∧ t.inputs = s.inputs ∧
    t.history = s.history ++ [.completed (some i) result err] ∧
    (err ≠ .ok → result = 0) ∧ (err = .noDevice → i = .begin) ∧
    (err = .notInitialized ↔ (i = .start ∨ i = .read) ∧ s.bound = false) ∧
    err ≠ .invalidConfiguration ∧ err ≠ .illegalCommand

/-- R24, the writes of the matrix: ADDRESS and BOUND are written by BEGIN alone, RESOLUTION by SETP alone, RAW and TEMP
by READ alone, CIP by START (to 1) and READ (to 0) alone; SETP and the accessors make no bus call. -/
def Obligations.CommandsWriteOnlyWhatTheMatrixAllows : Prop :=
  ∀ (i : Instr) (s t : State), exec i s = .next t →
    (i ≠ .begin → t.address = s.address ∧ t.bound = s.bound) ∧
    ((∀ x, i ≠ .setp x) → t.resolution = s.resolution) ∧
    (i ≠ .read → t.raw = s.raw ∧ t.temp = s.temp ∧ t.rawKnown = s.rawKnown) ∧
    (i ≠ .start → i ≠ .read → t.cip = s.cip) ∧
    (i = .start → t.cip = (s.bound || s.cip)) ∧ (i = .read → t.cip = (!s.bound && s.cip)) ∧
    (i ≠ .begin → i ≠ .start → i ≠ .rdy → i ≠ .read → t.trace = s.trace)

/-- R19: MODE is UNINIT when not bound, whatever CIP is; else IDLE_MODE or CONVERTING by CIP. -/
def Obligations.ModeIsAFunctionOfBoundAndCip : Prop :=
  ∀ s : State,
    (s.bound = false → s.mode = .uninit) ∧
    (s.bound = true → s.cip = false → s.mode = .idleMode) ∧
    (s.bound = true → s.cip = true → s.mode = .converting)

/-- R20: the mode after each command, from each row of the table; "ok" is BEGIN's RESULT 1. -/
def Obligations.ModeTransitionsAreTheTable : Prop :=
  ∀ (i : Instr) (s : State), ∃ t, exec i s = .next t ∧
    (i = .begin → t.bound = true → t.mode = if s.cip then .converting else .idleMode) ∧
    (i = .begin → t.bound = false → t.mode = .uninit ∧ t.cip = s.cip) ∧
    (i = .begin → (t.bound = true ↔ t.history = s.history ++ [.completed (some .begin) 1 .ok])) ∧
    (i = .start → t.mode = if s.bound then .converting else .uninit) ∧
    (i = .read → t.mode = if s.bound then .idleMode else .uninit) ∧
    (i ≠ .begin → i ≠ .start → i ≠ .read → t.mode = s.mode)

/-- R128: E_NOT_INITIALIZED is precise: the state after is the state before, but for the record, and the bus has seen
nothing; so is E_ILLEGAL_COMMAND. -/
def Obligations.ErrorsArePrecise : Prop :=
  (∀ (i : Instr) (s t : State) (result : Result), exec i s = .next t →
    t.history = s.history ++ [.completed (some i) result .notInitialized] →
    result = 0 ∧ t = { s with seq := .idle, history := t.history }) ∧
  (∀ (s t : State) (cmd : Option Instr) (result : Result), step s = .next t →
    t.history = s.history ++ [.completed cmd result .illegalCommand] →
    cmd = none ∧ result = 0 ∧ t = { s with inputs := s.inputs.tail, history := t.history })

/-- R88, R38, R70: the calls each command makes, with their arguments and in order, are the list its rule gives. BEGIN's
stops at the answer that ends it: no presence after `reset`, an exhausted search after `search`, else `crc8` of the
first seven bytes of the candidate the search answered. -/
def Obligations.CallListOfEachCommandIsExact : Prop :=
  ∀ (i : Instr) (s : State), ∃ t events, exec i s = .next t ∧ t.trace = s.trace ++ events ∧
    (i = .begin → events.map busCallOf =
      match presenceAnswer s.presences s.draws, searchAnswer s.finds (s.draws + 1) with
      | false, _ => [.reset]
      | true, none => [.reset, .search]
      | true, some cand => [.reset, .search,
          .crc8 [cand[0], cand[1], cand[2], cand[3], cand[4], cand[5], cand[6]] 7]) ∧
    (i = .start → events.map busCallOf = if s.bound then
      [.reset, .select s.address, .write 0x4E, .write 0x00, .write 0x00, .write s.resolution, .write 0x48,
       .reset, .select s.address, .write 0x44] else []) ∧
    (i = .rdy → events.map busCallOf = [.read]) ∧
    (i = .read → events.map busCallOf = if s.bound then
      [.reset, .select s.address, .write 0xBE, .read, .read] else []) ∧
    (i ≠ .begin → i ≠ .start → i ≠ .rdy → i ≠ .read → events = [])

/-- R39, R41: no step drops, reorders or merges a recorded call or a recorded outcome: both lists only grow at their
end, in the middle of a command too. -/
def Obligations.StepsOnlyAppendToTheRecord : Prop :=
  ∀ s t : State, step s = .next t → s.trace <+: t.trace ∧ s.history <+: t.history

/-- R57: the only bytes a step sends by `Bus.write` are the four command bytes, the zero placeholder and RESOLUTION. -/
def Obligations.OnlyTheProtocolBytesAreWritten : Prop :=
  ∀ (s t : State) (events : List BusEvent) (b : Byte), step s = .next t → t.trace = s.trace ++ events →
    BusEvent.write b ∈ events → b = 0x4E ∨ b = 0xBE ∨ b = 0x48 ∨ b = 0x44 ∨ b = 0x00 ∨ b = s.resolution

/-- R23(a), R31, U1: an address that goes out on the bus is ADDRESS, bound and past the CRC check; no unspecified address
ever goes out. -/
def Obligations.OnlyABoundAddressIsSelected : Prop :=
  ∀ (s t : State) (events : List BusEvent) (a : Address), Inv s → step s = .next t → t.trace = s.trace ++ events →
    BusEvent.select a ∈ events → a = s.address ∧ s.bound = true ∧ a[7] = crcOf a

/-- R89: START and READ do on a bus without presence exactly what they do with it: whatever the answers of `Bus.reset`,
the calls, the registers, the outputs and the bytes taken are the same. -/
def Obligations.PresenceIsDiscardedOutsideBegin : Prop :=
  ∀ (i : Instr) (s : State) (answers : List Bool), (i = .start ∨ i = .read) →
    ∃ t u, exec i s = .next t ∧ exec i { s with presences := answers } = .next u ∧
      u.calls = t.calls ∧ u.registers = t.registers ∧ u.history = t.history ∧ u.bytes = t.bytes ∧
      u.seq = t.seq ∧ u.draws = t.draws

/-- R24, the reads of the matrix, with R82 and R105: whatever a register holds, a command that does not read it makes the
same calls, answers the same and leaves the same in every other register. A command that writes a register without
reading it (BEGIN its two, SETP RESOLUTION, a bound READ RAW and TEMP) leaves the same there too. RESOLUTION enters
nothing but START's own byte, so READ's conversion does not depend on it. (GETADDR reads BOUND here, to know whether
ADDRESS is specified, log 6; CIP's row is CipGatesNothing.) -/
def Obligations.CommandsReadOnlyWhatTheMatrixAllows : Prop :=
  ∀ (i : Instr) (s t : State), exec i s = .next t →
    (∀ r : Byte, i ≠ .start → (∀ x, i ≠ .setp x) →
      exec i { s with resolution := r } = .next { t with resolution := r }) ∧
    (∀ r x : Byte, i = .setp x → exec i { s with resolution := r } = .next t) ∧
    (∀ a : Address, i ≠ .begin → i ≠ .start → i ≠ .read → i ≠ .getAddr →
      exec i { s with address := a } = .next { t with address := a }) ∧
    (∀ a : Address, i = .begin → exec i { s with address := a } = .next t) ∧
    (∀ b : Bool, i ≠ .begin → i ≠ .start → i ≠ .read → i ≠ .getAddr →
      exec i { s with bound := b } = .next { t with bound := b }) ∧
    (∀ b : Bool, i = .begin → exec i { s with bound := b } = .next t) ∧
    (∀ r : RawPayload, i ≠ .read → i ≠ .getRaw → exec i { s with raw := r } = .next { t with raw := r }) ∧
    (∀ r : RawPayload, i = .read →
      exec i { s with raw := r } = .next (if s.bound then t else { t with raw := r })) ∧
    (∀ v : Q4, i ≠ .read → i ≠ .getTemp → exec i { s with temp := v } = .next { t with temp := v }) ∧
    (∀ v : Q4, i = .read → exec i { s with temp := v } = .next (if s.bound then t else { t with temp := v }))

/-- R91(b), R16: CIP gates nothing: every command but ISREADING makes the same calls and answers the same whatever CIP
holds. -/
def Obligations.CipGatesNothing : Prop :=
  ∀ (i : Instr) (s t : State) (v : Bool), i ≠ .isReading → exec i s = .next t →
    exec i { s with cip := v } =
      .next { t with cip := if (i = .start ∨ i = .read) ∧ s.bound = true then t.cip else v }

/-- The model's reading of R11 and R14 (log 6, DEDUCED, as U1 and D29 have it): what ADDRESS holds while not bound, and RAW
before the first READ, reaches no output and no bus call. BEGIN overwrites ADDRESS and a bound READ overwrites RAW
whatever they held. -/
def Obligations.UnspecifiedRegistersNeverShow : Prop :=
  ∀ (i : Instr) (s t : State) (a : Address) (r : RawPayload), exec i s = .next t →
    (s.bound = false → i ≠ .begin → exec i { s with address := a } = .next { t with address := a }) ∧
    (i = .begin → exec i { s with address := a } = .next t) ∧
    (s.rawKnown = false → i ≠ .read → exec i { s with raw := r } = .next { t with raw := r }) ∧
    (i = .read → s.bound = true → exec i { s with raw := r } = .next t)

/-- 00_scope.md R8: in the reading where the two errors are faults (log 1), a step faults exactly when START or READ is
taken unbound, from IDLE or at its first label S0 or D0, or when the word taken in IDLE selects no command; in every
state where it does not fault it equals the step itself. -/
def Obligations.CheckedStepFaultsExactlyOnTheTwoErrors : Prop :=
  ∀ s : State,
    (checkedStep s = .fault .illegalCommand ↔
      s.seq = .idle ∧ ∃ w rest e, s.inputs = .command w :: rest ∧ decode w = .error e) ∧
    (checkedStep s = .fault .notInitialized ↔
      s.bound = false ∧
        (s.seq = .startS0 ∨ s.seq = .readD0 ∨
          s.seq = .idle ∧ ∃ w rest, s.inputs = .command w :: rest ∧
            (decode w = .ok .start ∨ decode w = .ok .read))) ∧
    ((∀ f, checkedStep s ≠ .fault f) → checkedStep s = step s)

/-- R129, 00_scope.md R8: the fault mark above the block is on exactly when the record of the run holds an
E_NOT_INITIALIZED or an E_ILLEGAL_COMMAND; so it is never cleared, and a step sets it exactly when the one record it
appends has one of these two as ERR, which is when the step is that fault in the reading of R8 (log 1). -/
def Obligations.FaultMarkIsSetByTheTwoErrorsAndNeverCleared : Prop :=
  (∀ s : State, faulted s = true ↔
    ∃ cmd result, Record.completed cmd result .notInitialized ∈ s.history ∨
      Record.completed cmd result .illegalCommand ∈ s.history) ∧
  (∀ s t : State, step s = .next t →
    (faulted t = true ↔ faulted s = true ∨
      ∃ cmd result, t.history = s.history ++ [.completed cmd result .notInitialized] ∨
        t.history = s.history ++ [.completed cmd result .illegalCommand]) ∧
    (checkedStep s = .fault .notInitialized ↔
      ∃ cmd result, t.history = s.history ++ [.completed cmd result .notInitialized]) ∧
    (checkedStep s = .fault .illegalCommand ↔
      ∃ cmd result, t.history = s.history ++ [.completed cmd result .illegalCommand]))

/-- R143, R81, R151: the caller's wait belongs to the byte START sent: right after a START only `T_CONV` of that byte can
have honoured it, and a SETP changes nothing of it. A RDY honours it exactly when it answers ready between a START and
the READ that follows; a RDY at another time changes nothing of it, for its byte has no defined meaning. A READ ends
that stretch, and so does a BEGIN (log 19). The block itself checks none of this. -/
def Obligations.WaitDutyBelongsToTheByteStartSent : Prop :=
  (∀ (s t : State) (elapsed : Nat), Inv s → s.bound = true → exec .start s = .next t →
    rdyMeaningful t.history = true ∧ (waitHonoured t.history elapsed ↔ Config.tConv s.resolution ≤ elapsed)) ∧
  (∀ (imm8 : Byte) (s t : State) (elapsed : Nat), exec (.setp imm8) s = .next t →
    rdyMeaningful t.history = rdyMeaningful s.history ∧
      (waitHonoured t.history elapsed ↔ waitHonoured s.history elapsed)) ∧
  (∀ (s t : State) (elapsed : Nat), exec .rdy s = .next t →
    rdyMeaningful t.history = rdyMeaningful s.history ∧
      (waitHonoured t.history elapsed ↔
        waitHonoured s.history elapsed ∨
          rdyMeaningful s.history = true ∧ byteAnswer s.bytes s.draws ≠ 0x00)) ∧
  (∀ s t : State, (s.bound = true ∧ exec .read s = .next t ∨ exec .begin s = .next t) →
    rdyMeaningful t.history = false)

/-! ## The Celsius converter -/

/-- R100, R101: the converter stores the 16 bits unchanged, `high` above `low`, and is a bijection between byte pairs
and TEMP values. -/
def Obligations.ConverterIsABijectionOfTheBytes : Prop :=
  (∀ r : RawPayload, (convert r).toNat = r.high.toNat * 256 + r.low.toNat) ∧
  (∀ r : RawPayload, (convert r).extractLsb' 8 8 = r.high ∧ (convert r).extractLsb' 0 8 = r.low) ∧
  (∀ t : Q4, ∃ r, convert r = t ∧ ∀ r', convert r' = t → r' = r)

/-- R102: `celsius(TEMP) = -2048*TEMP[15] + sum over k = 0 .. 14 of TEMP[k] * 2^(k-4)`. -/
def Obligations.CelsiusIsTheWeightedSumOfTheBits : Prop :=
  ∀ t : Q4,
    celsius t = (t.toInt : ℚ) / 16 ∧
    celsius t = -2048 * (if t.getLsbD 15 then 1 else 0) +
      ((List.range 15).map (fun k => (if t.getLsbD k then (1 : ℚ) else 0) * (2 : ℚ) ^ ((k : Int) - 4))).sum

/-- R103: all patterns lie from -2048 to 2047.9375, both reached, and distinct patterns differ by at least one step of
1/16. -/
def Obligations.CelsiusRangeAndStep : Prop :=
  (∀ t : Q4, -2048 ≤ celsius t ∧ celsius t ≤ 2047.9375) ∧ celsius 0x8000 = -2048 ∧ celsius 0x7FFF = 2047.9375 ∧
  (∀ t u : Q4, t ≠ u → 1 / 16 ≤ |celsius t - celsius u|)

/-- R104: the number is exact in IEEE 754 binary32 and binary64 (their widths from general knowledge, G6), and is zero or
of a normal number's size. -/
def Obligations.CelsiusIsExactInBinaryFloatingPoint : Prop :=
  ∀ t : Q4, representable 24 (-149) 104 (celsius t) ∧ representable 53 (-1074) 971 (celsius t) ∧
    (celsius t = 0 ∨ (2 : ℚ) ^ (-126 : Int) ≤ |celsius t|)

/-- R106: INT is the floor of the value and FRAC its sixteenths: `celsius = INT + FRAC/16`. -/
def Obligations.IntegerAndFractionViewsRebuildCelsius : Prop :=
  (∀ t : Q4, intView t = ⌊celsius t⌋ ∧ -2048 ≤ intView t ∧ intView t ≤ 2047 ∧ fracView t ≤ 15 ∧
    celsius t = intView t + (fracView t : ℚ) / 16 ∧ 0 ≤ (fracView t : ℚ) / 16 ∧ (fracView t : ℚ) / 16 < 1 ∧
    (fracView t : ℚ) / 16 = ((fracView t * 625 : Nat) : ℚ) / 10000 ∧ fracView t * 625 ≤ 9375) ∧
  celsius 0xFFF8 = -0.5 ∧ intView 0xFFF8 = -1 ∧ fracView 0xFFF8 = 8

/-- R108: the source's three examples. -/
def Obligations.SourceExamplesConvert : Prop :=
  (convert { low := 0x91, high := 0x01 } = 0x0191 ∧ (0x0191 : Q4).toInt = 401 ∧ celsius 0x0191 = 25.0625) ∧
  (convert { low := 0x00, high := 0x00 } = 0x0000 ∧ celsius 0x0000 = 0) ∧
  (convert { low := 0x00, high := 0xFF } = 0xFF00 ∧ (0xFF00 : Q4).toInt = -256 ∧ celsius 0xFF00 = -16)

/-! ## Headlines -/

/-- The invariant holds after reset (R23, R140). -/
def Obligations.ResetMeetsTheInvariant : Prop := Inv State.reset

/-- R23: from every state that meets the invariant, in IDLE or in the middle of a command, every step that answers next
keeps it. -/
def Obligations.EveryStepKeepsTheInvariant : Prop :=
  ∀ s t : State, Inv s → step s = .next t → Inv t

/-- R23: from reset, whatever the host delivers and whatever the bus answers, whenever SEQ is IDLE: a bound ADDRESS
passes the CRC; TEMP is RAW bit for bit once a READ has completed and 0x0000 before; RESOLUTION is the last SETP's
operand or 0x2F; CIP is 1 exactly when a START has completed and no READ after it. -/
def Obligations.EveryRunFromResetKeepsTheFourInvariants : Prop :=
  ∀ (inputs : List HostInput) (presences : List Bool) (bytes : List Byte) (finds : List (Option Address)) (n : Nat)
    (t : State),
    Host.Core.run Sys2Proof.core n
      { State.reset with inputs := inputs, presences := presences, bytes := bytes, finds := finds } = .next t →
    t.seq = .idle ∧
    (t.bound = true → t.address[7] = crcOf t.address) ∧
    (readCompleted t.history = true → t.temp = t.raw.high ++ t.raw.low) ∧
    (readCompleted t.history = false → t.temp = 0x0000) ∧
    t.resolution = resolutionAfter t.history ∧
    t.cip = cipAfter t.history

/-- R18: the command as one step is its labelled statements one after another: from IDLE a step is what at most twelve
fine steps (the acceptance and at most eleven statements) come to, and SEQ is not IDLE strictly between. -/
def Obligations.StepIsTheRunOfItsMicroSteps : Prop :=
  ∀ s : State, s.seq = .idle →
    ∃ n, 1 ≤ n ∧ n ≤ 12 ∧ fineRun n s = step s ∧
      ∀ k, 0 < k → k < n → ∃ m, fineRun k s = .next m ∧ m.seq ≠ .idle

/-- R18(c): there is no loop: from the middle of any command the block is back in IDLE after at most eleven steps, and
takes no host input on the way. That every bus call returns is the model's premise (log 15). -/
def Obligations.EveryCommandReachesIdle : Prop :=
  ∀ s : State, s.seq ≠ .idle →
    ∃ n t, 1 ≤ n ∧ n ≤ 11 ∧ Host.Core.run Sys2Proof.core n s = .next t ∧ t.seq = .idle ∧ t.inputs = s.inputs

/-- R61, R86, R151: the host's `WAIT` passes over every 0x00 the bus answers and leaves at the first other byte, which it
has as RESULT; no register changes on the way. The premise that such a byte comes is the fairness R151 asks for. -/
def Obligations.WaitEndsAtTheFirstReadyByte : Prop :=
  ∀ (k : Nat) (b : Byte) (rest : List Byte) (s : State), s.seq = .idle →
    s.bytes = List.replicate k 0x00 ++ b :: rest → b ≠ 0x00 →
    (∃ u, waitReady k s = .gaveUp u) ∧
    ∃ t, waitReady (k + 1) s = .ready t ∧ t.bytes = rest ∧
      t.lastOutputs = some (b.setWidth 64, .ok) ∧ t.registers = s.registers ∧ t.seq = .idle

end
end

