-- ==== Sys2Proof/Laws/State.lean ====
section
/-! SUPPORT. What each named update of the state leaves in each field, one lemma per field and update, so that no later
proof unfolds an update; and what the three bus answers depend on. -/

namespace Sys2Proof.Machine

@[simp] theorem nextPresence_eq (s : State) : s.nextPresence = presenceAnswer s.presences s.draws := rfl
@[simp] theorem nextByte_eq (s : State) : s.nextByte = byteAnswer s.bytes s.draws := rfl
@[simp] theorem nextSearch_eq (s : State) : s.nextSearch = searchAnswer s.finds s.draws := rfl

section bindTo
variable (s : State) (c : Address)
@[simp] theorem bindTo_address : (s.bindTo c).address = c := rfl
@[simp] theorem bindTo_bound : (s.bindTo c).bound = true := rfl
@[simp] theorem bindTo_resolution : (s.bindTo c).resolution = s.resolution := rfl
@[simp] theorem bindTo_raw : (s.bindTo c).raw = s.raw := rfl
@[simp] theorem bindTo_temp : (s.bindTo c).temp = s.temp := rfl
@[simp] theorem bindTo_cip : (s.bindTo c).cip = s.cip := rfl
@[simp] theorem bindTo_seq : (s.bindTo c).seq = s.seq := rfl
@[simp] theorem bindTo_inputs : (s.bindTo c).inputs = s.inputs := rfl
@[simp] theorem bindTo_presences : (s.bindTo c).presences = s.presences := rfl
@[simp] theorem bindTo_bytes : (s.bindTo c).bytes = s.bytes := rfl
@[simp] theorem bindTo_finds : (s.bindTo c).finds = s.finds := rfl
@[simp] theorem bindTo_draws : (s.bindTo c).draws = s.draws := rfl
@[simp] theorem bindTo_rawKnown : (s.bindTo c).rawKnown = s.rawKnown := rfl
@[simp] theorem bindTo_trace : (s.bindTo c).trace = s.trace := rfl
@[simp] theorem bindTo_history : (s.bindTo c).history = s.history := rfl
end bindTo

section unbind
variable (s : State)
@[simp] theorem unbind_address : (s.unbind).address = Config.anyAddress s.draws := rfl
@[simp] theorem unbind_bound : (s.unbind).bound = false := rfl
@[simp] theorem unbind_resolution : (s.unbind).resolution = s.resolution := rfl
@[simp] theorem unbind_raw : (s.unbind).raw = s.raw := rfl
@[simp] theorem unbind_temp : (s.unbind).temp = s.temp := rfl
@[simp] theorem unbind_cip : (s.unbind).cip = s.cip := rfl
@[simp] theorem unbind_seq : (s.unbind).seq = s.seq := rfl
@[simp] theorem unbind_inputs : (s.unbind).inputs = s.inputs := rfl
@[simp] theorem unbind_presences : (s.unbind).presences = s.presences := rfl
@[simp] theorem unbind_bytes : (s.unbind).bytes = s.bytes := rfl
@[simp] theorem unbind_finds : (s.unbind).finds = s.finds := rfl
@[simp] theorem unbind_draws : (s.unbind).draws = s.draws + 8 := rfl
@[simp] theorem unbind_rawKnown : (s.unbind).rawKnown = s.rawKnown := rfl
@[simp] theorem unbind_trace : (s.unbind).trace = s.trace := rfl
@[simp] theorem unbind_history : (s.unbind).history = s.history := rfl
end unbind

section setCip
variable (s : State) (v : Bool)
@[simp] theorem setCip_address : (s.setCip v).address = s.address := rfl
@[simp] theorem setCip_bound : (s.setCip v).bound = s.bound := rfl
@[simp] theorem setCip_resolution : (s.setCip v).resolution = s.resolution := rfl
@[simp] theorem setCip_raw : (s.setCip v).raw = s.raw := rfl
@[simp] theorem setCip_temp : (s.setCip v).temp = s.temp := rfl
@[simp] theorem setCip_cip : (s.setCip v).cip = v := rfl
@[simp] theorem setCip_seq : (s.setCip v).seq = s.seq := rfl
@[simp] theorem setCip_inputs : (s.setCip v).inputs = s.inputs := rfl
@[simp] theorem setCip_presences : (s.setCip v).presences = s.presences := rfl
@[simp] theorem setCip_bytes : (s.setCip v).bytes = s.bytes := rfl
@[simp] theorem setCip_finds : (s.setCip v).finds = s.finds := rfl
@[simp] theorem setCip_draws : (s.setCip v).draws = s.draws := rfl
@[simp] theorem setCip_rawKnown : (s.setCip v).rawKnown = s.rawKnown := rfl
@[simp] theorem setCip_trace : (s.setCip v).trace = s.trace := rfl
@[simp] theorem setCip_history : (s.setCip v).history = s.history := rfl
end setCip

section busReset
variable (s : State)
@[simp] theorem busReset_address : (s.busReset).address = s.address := rfl
@[simp] theorem busReset_bound : (s.busReset).bound = s.bound := rfl
@[simp] theorem busReset_resolution : (s.busReset).resolution = s.resolution := rfl
@[simp] theorem busReset_raw : (s.busReset).raw = s.raw := rfl
@[simp] theorem busReset_temp : (s.busReset).temp = s.temp := rfl
@[simp] theorem busReset_cip : (s.busReset).cip = s.cip := rfl
@[simp] theorem busReset_seq : (s.busReset).seq = s.seq := rfl
@[simp] theorem busReset_inputs : (s.busReset).inputs = s.inputs := rfl
@[simp] theorem busReset_presences : (s.busReset).presences = s.presences.tail := rfl
@[simp] theorem busReset_bytes : (s.busReset).bytes = s.bytes := rfl
@[simp] theorem busReset_finds : (s.busReset).finds = s.finds := rfl
@[simp] theorem busReset_draws : (s.busReset).draws = s.draws + 1 := rfl
@[simp] theorem busReset_rawKnown : (s.busReset).rawKnown = s.rawKnown := rfl
@[simp] theorem busReset_trace : (s.busReset).trace = s.trace ++ [.reset s.nextPresence] := rfl
@[simp] theorem busReset_history : (s.busReset).history = s.history := rfl
end busReset

section busSelect
variable (s : State) (a : Address)
@[simp] theorem busSelect_address : (s.busSelect a).address = s.address := rfl
@[simp] theorem busSelect_bound : (s.busSelect a).bound = s.bound := rfl
@[simp] theorem busSelect_resolution : (s.busSelect a).resolution = s.resolution := rfl
@[simp] theorem busSelect_raw : (s.busSelect a).raw = s.raw := rfl
@[simp] theorem busSelect_temp : (s.busSelect a).temp = s.temp := rfl
@[simp] theorem busSelect_cip : (s.busSelect a).cip = s.cip := rfl
@[simp] theorem busSelect_seq : (s.busSelect a).seq = s.seq := rfl
@[simp] theorem busSelect_inputs : (s.busSelect a).inputs = s.inputs := rfl
@[simp] theorem busSelect_presences : (s.busSelect a).presences = s.presences := rfl
@[simp] theorem busSelect_bytes : (s.busSelect a).bytes = s.bytes := rfl
@[simp] theorem busSelect_finds : (s.busSelect a).finds = s.finds := rfl
@[simp] theorem busSelect_draws : (s.busSelect a).draws = s.draws := rfl
@[simp] theorem busSelect_rawKnown : (s.busSelect a).rawKnown = s.rawKnown := rfl
@[simp] theorem busSelect_trace : (s.busSelect a).trace = s.trace ++ [.select a] := rfl
@[simp] theorem busSelect_history : (s.busSelect a).history = s.history := rfl
end busSelect

section busWrite
variable (s : State) (b : Byte)
@[simp] theorem busWrite_address : (s.busWrite b).address = s.address := rfl
@[simp] theorem busWrite_bound : (s.busWrite b).bound = s.bound := rfl
@[simp] theorem busWrite_resolution : (s.busWrite b).resolution = s.resolution := rfl
@[simp] theorem busWrite_raw : (s.busWrite b).raw = s.raw := rfl
@[simp] theorem busWrite_temp : (s.busWrite b).temp = s.temp := rfl
@[simp] theorem busWrite_cip : (s.busWrite b).cip = s.cip := rfl
@[simp] theorem busWrite_seq : (s.busWrite b).seq = s.seq := rfl
@[simp] theorem busWrite_inputs : (s.busWrite b).inputs = s.inputs := rfl
@[simp] theorem busWrite_presences : (s.busWrite b).presences = s.presences := rfl
@[simp] theorem busWrite_bytes : (s.busWrite b).bytes = s.bytes := rfl
@[simp] theorem busWrite_finds : (s.busWrite b).finds = s.finds := rfl
@[simp] theorem busWrite_draws : (s.busWrite b).draws = s.draws := rfl
@[simp] theorem busWrite_rawKnown : (s.busWrite b).rawKnown = s.rawKnown := rfl
@[simp] theorem busWrite_trace : (s.busWrite b).trace = s.trace ++ [.write b] := rfl
@[simp] theorem busWrite_history : (s.busWrite b).history = s.history := rfl
end busWrite

section busRead
variable (s : State)
@[simp] theorem busRead_address : (s.busRead).address = s.address := rfl
@[simp] theorem busRead_bound : (s.busRead).bound = s.bound := rfl
@[simp] theorem busRead_resolution : (s.busRead).resolution = s.resolution := rfl
@[simp] theorem busRead_raw : (s.busRead).raw = s.raw := rfl
@[simp] theorem busRead_temp : (s.busRead).temp = s.temp := rfl
@[simp] theorem busRead_cip : (s.busRead).cip = s.cip := rfl
@[simp] theorem busRead_seq : (s.busRead).seq = s.seq := rfl
@[simp] theorem busRead_inputs : (s.busRead).inputs = s.inputs := rfl
@[simp] theorem busRead_presences : (s.busRead).presences = s.presences := rfl
@[simp] theorem busRead_bytes : (s.busRead).bytes = s.bytes.tail := rfl
@[simp] theorem busRead_finds : (s.busRead).finds = s.finds := rfl
@[simp] theorem busRead_draws : (s.busRead).draws = s.draws + 1 := rfl
@[simp] theorem busRead_rawKnown : (s.busRead).rawKnown = s.rawKnown := rfl
@[simp] theorem busRead_trace : (s.busRead).trace = s.trace ++ [.read s.nextByte] := rfl
@[simp] theorem busRead_history : (s.busRead).history = s.history := rfl
end busRead

section busSearch
variable (s : State)
@[simp] theorem busSearch_address : (s.busSearch).address = s.address := rfl
@[simp] theorem busSearch_bound : (s.busSearch).bound = s.bound := rfl
@[simp] theorem busSearch_resolution : (s.busSearch).resolution = s.resolution := rfl
@[simp] theorem busSearch_raw : (s.busSearch).raw = s.raw := rfl
@[simp] theorem busSearch_temp : (s.busSearch).temp = s.temp := rfl
@[simp] theorem busSearch_cip : (s.busSearch).cip = s.cip := rfl
@[simp] theorem busSearch_seq : (s.busSearch).seq = s.seq := rfl
@[simp] theorem busSearch_inputs : (s.busSearch).inputs = s.inputs := rfl
@[simp] theorem busSearch_presences : (s.busSearch).presences = s.presences := rfl
@[simp] theorem busSearch_bytes : (s.busSearch).bytes = s.bytes := rfl
@[simp] theorem busSearch_finds : (s.busSearch).finds = s.finds.tail := rfl
@[simp] theorem busSearch_draws : (s.busSearch).draws = s.draws + 1 := rfl
@[simp] theorem busSearch_rawKnown : (s.busSearch).rawKnown = s.rawKnown := rfl
@[simp] theorem busSearch_trace : (s.busSearch).trace = s.trace ++ [.search s.nextSearch] := rfl
@[simp] theorem busSearch_history : (s.busSearch).history = s.history := rfl
end busSearch

section busCrc8
variable (s : State) (c : Address)
@[simp] theorem busCrc8_address : (s.busCrc8 c).address = s.address := rfl
@[simp] theorem busCrc8_bound : (s.busCrc8 c).bound = s.bound := rfl
@[simp] theorem busCrc8_resolution : (s.busCrc8 c).resolution = s.resolution := rfl
@[simp] theorem busCrc8_raw : (s.busCrc8 c).raw = s.raw := rfl
@[simp] theorem busCrc8_temp : (s.busCrc8 c).temp = s.temp := rfl
@[simp] theorem busCrc8_cip : (s.busCrc8 c).cip = s.cip := rfl
@[simp] theorem busCrc8_seq : (s.busCrc8 c).seq = s.seq := rfl
@[simp] theorem busCrc8_inputs : (s.busCrc8 c).inputs = s.inputs := rfl
@[simp] theorem busCrc8_presences : (s.busCrc8 c).presences = s.presences := rfl
@[simp] theorem busCrc8_bytes : (s.busCrc8 c).bytes = s.bytes := rfl
@[simp] theorem busCrc8_finds : (s.busCrc8 c).finds = s.finds := rfl
@[simp] theorem busCrc8_draws : (s.busCrc8 c).draws = s.draws := rfl
@[simp] theorem busCrc8_rawKnown : (s.busCrc8 c).rawKnown = s.rawKnown := rfl
@[simp] theorem busCrc8_trace : (s.busCrc8 c).trace = s.trace ++ [.crc8 (firstSeven c) 7 (crcOf c)] := rfl
@[simp] theorem busCrc8_history : (s.busCrc8 c).history = s.history := rfl
end busCrc8

section setResolution
variable (s : State) (b : Byte)
@[simp] theorem setResolution_address : (s.setResolution b).address = s.address := rfl
@[simp] theorem setResolution_bound : (s.setResolution b).bound = s.bound := rfl
@[simp] theorem setResolution_resolution : (s.setResolution b).resolution = b := rfl
@[simp] theorem setResolution_raw : (s.setResolution b).raw = s.raw := rfl
@[simp] theorem setResolution_temp : (s.setResolution b).temp = s.temp := rfl
@[simp] theorem setResolution_cip : (s.setResolution b).cip = s.cip := rfl
@[simp] theorem setResolution_seq : (s.setResolution b).seq = s.seq := rfl
@[simp] theorem setResolution_inputs : (s.setResolution b).inputs = s.inputs := rfl
@[simp] theorem setResolution_presences : (s.setResolution b).presences = s.presences := rfl
@[simp] theorem setResolution_bytes : (s.setResolution b).bytes = s.bytes := rfl
@[simp] theorem setResolution_finds : (s.setResolution b).finds = s.finds := rfl
@[simp] theorem setResolution_draws : (s.setResolution b).draws = s.draws := rfl
@[simp] theorem setResolution_rawKnown : (s.setResolution b).rawKnown = s.rawKnown := rfl
@[simp] theorem setResolution_trace : (s.setResolution b).trace = s.trace := rfl
@[simp] theorem setResolution_history : (s.setResolution b).history = s.history := rfl
end setResolution

section setRawLow
variable (s : State) (b : Byte)
@[simp] theorem setRawLow_address : (s.setRawLow b).address = s.address := rfl
@[simp] theorem setRawLow_bound : (s.setRawLow b).bound = s.bound := rfl
@[simp] theorem setRawLow_resolution : (s.setRawLow b).resolution = s.resolution := rfl
@[simp] theorem setRawLow_raw : (s.setRawLow b).raw = { s.raw with low := b } := rfl
@[simp] theorem setRawLow_temp : (s.setRawLow b).temp = s.temp := rfl
@[simp] theorem setRawLow_cip : (s.setRawLow b).cip = s.cip := rfl
@[simp] theorem setRawLow_seq : (s.setRawLow b).seq = s.seq := rfl
@[simp] theorem setRawLow_inputs : (s.setRawLow b).inputs = s.inputs := rfl
@[simp] theorem setRawLow_presences : (s.setRawLow b).presences = s.presences := rfl
@[simp] theorem setRawLow_bytes : (s.setRawLow b).bytes = s.bytes := rfl
@[simp] theorem setRawLow_finds : (s.setRawLow b).finds = s.finds := rfl
@[simp] theorem setRawLow_draws : (s.setRawLow b).draws = s.draws := rfl
@[simp] theorem setRawLow_rawKnown : (s.setRawLow b).rawKnown = s.rawKnown := rfl
@[simp] theorem setRawLow_trace : (s.setRawLow b).trace = s.trace := rfl
@[simp] theorem setRawLow_history : (s.setRawLow b).history = s.history := rfl
end setRawLow

section setRawHigh
variable (s : State) (b : Byte)
@[simp] theorem setRawHigh_address : (s.setRawHigh b).address = s.address := rfl
@[simp] theorem setRawHigh_bound : (s.setRawHigh b).bound = s.bound := rfl
@[simp] theorem setRawHigh_resolution : (s.setRawHigh b).resolution = s.resolution := rfl
@[simp] theorem setRawHigh_raw : (s.setRawHigh b).raw = { s.raw with high := b } := rfl
@[simp] theorem setRawHigh_temp : (s.setRawHigh b).temp = s.temp := rfl
@[simp] theorem setRawHigh_cip : (s.setRawHigh b).cip = s.cip := rfl
@[simp] theorem setRawHigh_seq : (s.setRawHigh b).seq = s.seq := rfl
@[simp] theorem setRawHigh_inputs : (s.setRawHigh b).inputs = s.inputs := rfl
@[simp] theorem setRawHigh_presences : (s.setRawHigh b).presences = s.presences := rfl
@[simp] theorem setRawHigh_bytes : (s.setRawHigh b).bytes = s.bytes := rfl
@[simp] theorem setRawHigh_finds : (s.setRawHigh b).finds = s.finds := rfl
@[simp] theorem setRawHigh_draws : (s.setRawHigh b).draws = s.draws := rfl
@[simp] theorem setRawHigh_rawKnown : (s.setRawHigh b).rawKnown = s.rawKnown := rfl
@[simp] theorem setRawHigh_trace : (s.setRawHigh b).trace = s.trace := rfl
@[simp] theorem setRawHigh_history : (s.setRawHigh b).history = s.history := rfl
end setRawHigh

section latchTemp
variable (s : State)
@[simp] theorem latchTemp_address : (s.latchTemp).address = s.address := rfl
@[simp] theorem latchTemp_bound : (s.latchTemp).bound = s.bound := rfl
@[simp] theorem latchTemp_resolution : (s.latchTemp).resolution = s.resolution := rfl
@[simp] theorem latchTemp_raw : (s.latchTemp).raw = s.raw := rfl
@[simp] theorem latchTemp_temp : (s.latchTemp).temp = convert s.raw := rfl
@[simp] theorem latchTemp_cip : (s.latchTemp).cip = s.cip := rfl
@[simp] theorem latchTemp_seq : (s.latchTemp).seq = s.seq := rfl
@[simp] theorem latchTemp_inputs : (s.latchTemp).inputs = s.inputs := rfl
@[simp] theorem latchTemp_presences : (s.latchTemp).presences = s.presences := rfl
@[simp] theorem latchTemp_bytes : (s.latchTemp).bytes = s.bytes := rfl
@[simp] theorem latchTemp_finds : (s.latchTemp).finds = s.finds := rfl
@[simp] theorem latchTemp_draws : (s.latchTemp).draws = s.draws := rfl
@[simp] theorem latchTemp_rawKnown : (s.latchTemp).rawKnown = true := rfl
@[simp] theorem latchTemp_trace : (s.latchTemp).trace = s.trace := rfl
@[simp] theorem latchTemp_history : (s.latchTemp).history = s.history := rfl
end latchTemp

section drawn
variable (s : State) (n : Nat)
@[simp] theorem drawn_address : (s.drawn n).address = s.address := rfl
@[simp] theorem drawn_bound : (s.drawn n).bound = s.bound := rfl
@[simp] theorem drawn_resolution : (s.drawn n).resolution = s.resolution := rfl
@[simp] theorem drawn_raw : (s.drawn n).raw = s.raw := rfl
@[simp] theorem drawn_temp : (s.drawn n).temp = s.temp := rfl
@[simp] theorem drawn_cip : (s.drawn n).cip = s.cip := rfl
@[simp] theorem drawn_seq : (s.drawn n).seq = s.seq := rfl
@[simp] theorem drawn_inputs : (s.drawn n).inputs = s.inputs := rfl
@[simp] theorem drawn_presences : (s.drawn n).presences = s.presences := rfl
@[simp] theorem drawn_bytes : (s.drawn n).bytes = s.bytes := rfl
@[simp] theorem drawn_finds : (s.drawn n).finds = s.finds := rfl
@[simp] theorem drawn_draws : (s.drawn n).draws = s.draws + n := rfl
@[simp] theorem drawn_rawKnown : (s.drawn n).rawKnown = s.rawKnown := rfl
@[simp] theorem drawn_trace : (s.drawn n).trace = s.trace := rfl
@[simp] theorem drawn_history : (s.drawn n).history = s.history := rfl
end drawn

section goto
variable (s : State) (l : Seq)
@[simp] theorem goto_address : (s.goto l).address = s.address := rfl
@[simp] theorem goto_bound : (s.goto l).bound = s.bound := rfl
@[simp] theorem goto_resolution : (s.goto l).resolution = s.resolution := rfl
@[simp] theorem goto_raw : (s.goto l).raw = s.raw := rfl
@[simp] theorem goto_temp : (s.goto l).temp = s.temp := rfl
@[simp] theorem goto_cip : (s.goto l).cip = s.cip := rfl
@[simp] theorem goto_seq : (s.goto l).seq = l := rfl
@[simp] theorem goto_inputs : (s.goto l).inputs = s.inputs := rfl
@[simp] theorem goto_presences : (s.goto l).presences = s.presences := rfl
@[simp] theorem goto_bytes : (s.goto l).bytes = s.bytes := rfl
@[simp] theorem goto_finds : (s.goto l).finds = s.finds := rfl
@[simp] theorem goto_draws : (s.goto l).draws = s.draws := rfl
@[simp] theorem goto_rawKnown : (s.goto l).rawKnown = s.rawKnown := rfl
@[simp] theorem goto_trace : (s.goto l).trace = s.trace := rfl
@[simp] theorem goto_history : (s.goto l).history = s.history := rfl
end goto

section complete
variable (s : State) (c : Option Instr) (r : Result) (e : Err)
@[simp] theorem complete_address : (s.complete c r e).address = s.address := rfl
@[simp] theorem complete_bound : (s.complete c r e).bound = s.bound := rfl
@[simp] theorem complete_resolution : (s.complete c r e).resolution = s.resolution := rfl
@[simp] theorem complete_raw : (s.complete c r e).raw = s.raw := rfl
@[simp] theorem complete_temp : (s.complete c r e).temp = s.temp := rfl
@[simp] theorem complete_cip : (s.complete c r e).cip = s.cip := rfl
@[simp] theorem complete_seq : (s.complete c r e).seq = .idle := rfl
@[simp] theorem complete_inputs : (s.complete c r e).inputs = s.inputs := rfl
@[simp] theorem complete_presences : (s.complete c r e).presences = s.presences := rfl
@[simp] theorem complete_bytes : (s.complete c r e).bytes = s.bytes := rfl
@[simp] theorem complete_finds : (s.complete c r e).finds = s.finds := rfl
@[simp] theorem complete_draws : (s.complete c r e).draws = s.draws := rfl
@[simp] theorem complete_rawKnown : (s.complete c r e).rawKnown = s.rawKnown := rfl
@[simp] theorem complete_trace : (s.complete c r e).trace = s.trace := rfl
@[simp] theorem complete_history : (s.complete c r e).history = s.history ++ [.completed c r e] := rfl
end complete

section raiseError
variable (s : State) (c : Option Instr) (e : Err)
@[simp] theorem raiseError_address : (s.raiseError c e).address = s.address := rfl
@[simp] theorem raiseError_bound : (s.raiseError c e).bound = s.bound := rfl
@[simp] theorem raiseError_resolution : (s.raiseError c e).resolution = s.resolution := rfl
@[simp] theorem raiseError_raw : (s.raiseError c e).raw = s.raw := rfl
@[simp] theorem raiseError_temp : (s.raiseError c e).temp = s.temp := rfl
@[simp] theorem raiseError_cip : (s.raiseError c e).cip = s.cip := rfl
@[simp] theorem raiseError_seq : (s.raiseError c e).seq = .idle := rfl
@[simp] theorem raiseError_inputs : (s.raiseError c e).inputs = s.inputs := rfl
@[simp] theorem raiseError_presences : (s.raiseError c e).presences = s.presences := rfl
@[simp] theorem raiseError_bytes : (s.raiseError c e).bytes = s.bytes := rfl
@[simp] theorem raiseError_finds : (s.raiseError c e).finds = s.finds := rfl
@[simp] theorem raiseError_draws : (s.raiseError c e).draws = s.draws := rfl
@[simp] theorem raiseError_rawKnown : (s.raiseError c e).rawKnown = s.rawKnown := rfl
@[simp] theorem raiseError_trace : (s.raiseError c e).trace = s.trace := rfl
@[simp] theorem raiseError_history : (s.raiseError c e).history = s.history ++ [.completed c 0 e] := rfl
end raiseError

section failDiscovery
variable (s : State)
@[simp] theorem failDiscovery_address : (s.failDiscovery).address = Config.anyAddress s.draws := rfl
@[simp] theorem failDiscovery_bound : (s.failDiscovery).bound = false := rfl
@[simp] theorem failDiscovery_resolution : (s.failDiscovery).resolution = s.resolution := rfl
@[simp] theorem failDiscovery_raw : (s.failDiscovery).raw = s.raw := rfl
@[simp] theorem failDiscovery_temp : (s.failDiscovery).temp = s.temp := rfl
@[simp] theorem failDiscovery_cip : (s.failDiscovery).cip = s.cip := rfl
@[simp] theorem failDiscovery_seq : (s.failDiscovery).seq = .idle := rfl
@[simp] theorem failDiscovery_inputs : (s.failDiscovery).inputs = s.inputs := rfl
@[simp] theorem failDiscovery_presences : (s.failDiscovery).presences = s.presences := rfl
@[simp] theorem failDiscovery_bytes : (s.failDiscovery).bytes = s.bytes := rfl
@[simp] theorem failDiscovery_finds : (s.failDiscovery).finds = s.finds := rfl
@[simp] theorem failDiscovery_draws : (s.failDiscovery).draws = s.draws + 8 := rfl
@[simp] theorem failDiscovery_rawKnown : (s.failDiscovery).rawKnown = s.rawKnown := rfl
@[simp] theorem failDiscovery_trace : (s.failDiscovery).trace = s.trace := rfl
@[simp] theorem failDiscovery_history : (s.failDiscovery).history = s.history ++ [.completed (some .begin) 0 .noDevice] := rfl
end failDiscovery

section pulseReset
variable (s : State)
@[simp] theorem pulseReset_address : (s.pulseReset).address = Config.anyAddress s.draws := rfl
@[simp] theorem pulseReset_bound : (s.pulseReset).bound = false := rfl
@[simp] theorem pulseReset_resolution : (s.pulseReset).resolution = 0x2F := rfl
@[simp] theorem pulseReset_raw : (s.pulseReset).raw = Config.anyRaw (s.draws + 8) := rfl
@[simp] theorem pulseReset_temp : (s.pulseReset).temp = 0x0000 := rfl
@[simp] theorem pulseReset_cip : (s.pulseReset).cip = false := rfl
@[simp] theorem pulseReset_seq : (s.pulseReset).seq = .idle := rfl
@[simp] theorem pulseReset_inputs : (s.pulseReset).inputs = s.inputs := rfl
@[simp] theorem pulseReset_presences : (s.pulseReset).presences = s.presences := rfl
@[simp] theorem pulseReset_bytes : (s.pulseReset).bytes = s.bytes := rfl
@[simp] theorem pulseReset_finds : (s.pulseReset).finds = s.finds := rfl
@[simp] theorem pulseReset_draws : (s.pulseReset).draws = s.draws + 10 := rfl
@[simp] theorem pulseReset_rawKnown : (s.pulseReset).rawKnown = false := rfl
@[simp] theorem pulseReset_trace : (s.pulseReset).trace = s.trace := rfl
@[simp] theorem pulseReset_history : (s.pulseReset).history = s.history ++ [.reset] := rfl
end pulseReset

end Sys2Proof.Machine
end

