-- ==== Sys2Proof/Laws/Ops.lean ====
section
/-! SUPPORT. One lemma per shared operation: everything it does. The sequences of START and READ and the exits of BEGIN,
what a history amounts to when one record is added, and the cases of a step. -/

namespace Sys2Proof.Machine

/-- START past its check: two answers taken, ten calls recorded, CIP set, one record. -/
theorem startSequence_spec (s : State) :
    startSequence s =
      { s with
        cip := true
        seq := .idle
        presences := s.presences.tail.tail
        draws := s.draws + 1 + 1
        trace := s.trace ++
          [.reset (presenceAnswer s.presences s.draws), .select s.address, .write writeScratchpad,
           .write alarmPlaceholder, .write alarmPlaceholder, .write s.resolution, .write copyScratchpad,
           .reset (presenceAnswer s.presences.tail (s.draws + 1)), .select s.address, .write convertTemperature]
        history := s.history ++ [.completed (some .start) 0 .ok] } := by
  simp [startSequence, State.complete, State.setCip, State.busWrite, State.busSelect, State.busReset]

/-- READ past its check: three answers taken, five calls recorded, CIP cleared, RAW and TEMP written, one record. -/
theorem readSequence_spec (s : State) :
    readSequence s =
      { s with
        raw := ⟨byteAnswer s.bytes (s.draws + 1), byteAnswer s.bytes.tail (s.draws + 1 + 1)⟩
        temp := byteAnswer s.bytes.tail (s.draws + 1 + 1) ++ byteAnswer s.bytes (s.draws + 1)
        cip := false
        seq := .idle
        presences := s.presences.tail
        bytes := s.bytes.tail.tail
        draws := s.draws + 1 + 1 + 1
        rawKnown := true
        trace := s.trace ++
          [.reset (presenceAnswer s.presences s.draws), .select s.address, .write readScratchpad,
           .read (byteAnswer s.bytes (s.draws + 1)), .read (byteAnswer s.bytes.tail (s.draws + 1 + 1))]
        history := s.history ++
          [.completed (some .read)
            (resultOfTemp (byteAnswer s.bytes.tail (s.draws + 1 + 1) ++ byteAnswer s.bytes (s.draws + 1))) .ok] } := by
  simp [readSequence, State.complete, State.latchTemp, State.setRawHigh, State.setRawLow, State.busRead,
    State.busWrite, State.busSelect, State.busReset, State.setCip, convert, raw16]

/-- The FAIL exit of BEGIN: unbound, ADDRESS drawn, one record. -/
theorem failDiscovery_spec (s : State) :
    s.failDiscovery =
      { s with
        address := Config.anyAddress s.draws
        bound := false
        seq := .idle
        draws := s.draws + 8
        history := s.history ++ [.completed (some .begin) 0 .noDevice] } := rfl

/-- Taking an error: SEQ to IDLE and one record with RESULT 0. -/
theorem raiseError_spec (s : State) (cmd : Option Instr) (err : Err) :
    s.raiseError cmd err = { s with seq := .idle, history := s.history ++ [.completed cmd 0 err] } := rfl

/-- The meaning of a command as a state: every arm of `exec` answers next. -/
def after : Instr → State → State
  | .begin, s => if s.nextPresence then searchOnce s.busReset else s.busReset.failDiscovery
  | .setp imm8, s => (s.setResolution imm8).complete (some (.setp imm8)) 0 .ok
  | .start, s => if s.bound then startSequence s else s.raiseError (some .start) .notInitialized
  | .rdy, s => s.busRead.complete (some .rdy) (resultOfByte s.nextByte) .ok
  | .read, s => if s.bound then readSequence s else s.raiseError (some .read) .notInitialized
  | .getTemp, s => s.complete (some .getTemp) (resultOfTemp s.temp) .ok
  | .getRaw, s => (s.drawn (if s.rawKnown then 0 else 2)).complete (some .getRaw) (resultOfRaw s.rawSeen) .ok
  | .getAddr, s => (s.drawn (if s.bound then 0 else 8)).complete (some .getAddr) (resultOfAddress s.addressSeen) .ok
  | .isReading, s => s.complete (some .isReading) (resultOfBit s.cip) .ok

theorem exec_eq_after (i : Instr) (s : State) : exec i s = .next (after i s) := by
  cases i <;> rfl

/-! BEGIN, by the answers it gets. -/

theorem after_begin_absent {s : State} (hp : presenceAnswer s.presences s.draws = false) :
    after .begin s = s.busReset.failDiscovery := by simp [after, hp]

theorem after_begin_exhausted {s : State} (hp : presenceAnswer s.presences s.draws = true)
    (hf : searchAnswer s.finds (s.draws + 1) = none) :
    after .begin s = s.busReset.busSearch.failDiscovery := by simp [after, searchOnce, hp, hf]

theorem after_begin_mismatch {s : State} {cand : Address} (hp : presenceAnswer s.presences s.draws = true)
    (hf : searchAnswer s.finds (s.draws + 1) = some cand) (hc : crcOf cand ≠ cand[7]) :
    after .begin s = (s.busReset.busSearch.busCrc8 cand).failDiscovery := by
  simp [after, searchOnce, checkCandidate, hp, hf, hc]

theorem after_begin_match {s : State} {cand : Address} (hp : presenceAnswer s.presences s.draws = true)
    (hf : searchAnswer s.finds (s.draws + 1) = some cand) (hc : crcOf cand = cand[7]) :
    after .begin s = ((s.busReset.busSearch.busCrc8 cand).bindTo cand).complete (some .begin) 1 .ok := by
  simp [after, searchOnce, checkCandidate, hp, hf, hc]

/-- The four ways BEGIN ends: the answers that lead to each, for the lemmas above. -/
theorem begin_cases (s : State) :
    presenceAnswer s.presences s.draws = false ∨
    (presenceAnswer s.presences s.draws = true ∧ searchAnswer s.finds (s.draws + 1) = none) ∨
    (∃ cand, presenceAnswer s.presences s.draws = true ∧ searchAnswer s.finds (s.draws + 1) = some cand ∧
      crcOf cand ≠ cand[7]) ∨
    (∃ cand, presenceAnswer s.presences s.draws = true ∧ searchAnswer s.finds (s.draws + 1) = some cand ∧
      crcOf cand = cand[7]) := by
  cases hp : presenceAnswer s.presences s.draws with
  | false => exact .inl rfl
  | true =>
    cases hf : searchAnswer s.finds (s.draws + 1) with
    | none => exact .inr (.inl ⟨rfl, rfl⟩)
    | some cand =>
      by_cases hc : crcOf cand = cand[7]
      · exact .inr (.inr (.inr ⟨cand, rfl, rfl, hc⟩))
      · exact .inr (.inr (.inl ⟨cand, rfl, rfl, hc⟩))

/-- The four next states of BEGIN. -/
theorem after_begin_cases (s : State) :
    after .begin s = s.busReset.failDiscovery ∨
    after .begin s = s.busReset.busSearch.failDiscovery ∨
    (∃ cand, after .begin s = (s.busReset.busSearch.busCrc8 cand).failDiscovery) ∨
    (∃ cand, crcOf cand = cand[7] ∧
      after .begin s = ((s.busReset.busSearch.busCrc8 cand).bindTo cand).complete (some .begin) 1 .ok) := by
  rcases begin_cases s with hp | ⟨hp, hf⟩ | ⟨cand, hp, hf, hc⟩ | ⟨cand, hp, hf, hc⟩
  · exact .inl (after_begin_absent hp)
  · exact .inr (.inl (after_begin_exhausted hp hf))
  · exact .inr (.inr (.inl ⟨cand, after_begin_mismatch hp hf hc⟩))
  · exact .inr (.inr (.inr ⟨cand, hc, after_begin_match hp hf hc⟩))

/-- Everything a step that answers next can have done. -/
theorem step_cases {s t : State} (h : step s = .next t) :
    (s.seq = .idle ∧ s.inputs = [] ∧ t = s) ∨
    (∃ rest, s.seq = .idle ∧ s.inputs = .reset :: rest ∧ t = State.pulseReset { s with inputs := rest }) ∨
    (∃ w rest e, s.seq = .idle ∧ s.inputs = .command w :: rest ∧ decode w = .error e ∧
      t = illegalWord { s with inputs := rest }) ∨
    (∃ w rest i, s.seq = .idle ∧ s.inputs = .command w :: rest ∧ decode w = .ok i ∧
      t = after i { s with inputs := rest }) ∨
    (s.seq ≠ .idle ∧ t = microStep s) := by
  unfold step at h
  split at h
  · rename_i hi
    unfold take at h
    split at h
    case h_1 ht =>
      split at ht <;> first | cases ht | skip
      · cases h; exact .inl ⟨hi, ‹_›, rfl⟩
      · split at ht <;> cases ht
    case h_2 ht =>
      split at ht <;> first | cases ht | skip
      · cases h; exact .inr (.inl ⟨_, hi, ‹_›, rfl⟩)
      · split at ht <;> cases ht
    case h_3 ht => cases h
    case h_4 ht =>
      split at ht <;> first | cases ht | skip
      split at ht
      · cases ht
      · cases ht; cases h; exact .inr (.inr (.inl ⟨_, _, _, hi, ‹_›, ‹_›, rfl⟩))
    case h_5 ht =>
      split at ht <;> first | cases ht | skip
      split at ht
      · cases ht
        rw [exec_eq_after] at h
        cases h; exact .inr (.inr (.inr (.inl ⟨_, _, _, hi, ‹_›, ‹_›, rfl⟩)))
      · cases ht
  · rename_i hi
    cases h
    exact .inr (.inr (.inr (.inr ⟨fun h => hi h, rfl⟩)))

end Sys2Proof.Machine

namespace Sys2Proof.Safety

open Sys2Proof.Machine

/-! What a history amounts to when one record is added. -/

@[simp] theorem resolutionAfter_append (h : List Record) (r : Record) :
    resolutionAfter (h ++ [r]) = noteResolution (resolutionAfter h) r := by simp [resolutionAfter]

@[simp] theorem cipAfter_append (h : List Record) (r : Record) :
    cipAfter (h ++ [r]) = noteCip (cipAfter h) r := by simp [cipAfter]

@[simp] theorem readCompleted_append (h : List Record) (r : Record) :
    readCompleted (h ++ [r]) = noteRead (readCompleted h) r := by simp [readCompleted]

@[simp] theorem boundAfter_append (h : List Record) (r : Record) :
    boundAfter (h ++ [r]) = noteBound (boundAfter h) r := by simp [boundAfter]

@[simp] theorem sentAfter_append (h : List Record) (r : Record) :
    sentAfter (h ++ [r]) = noteSent (sentAfter h) r := by simp [sentAfter]

@[simp] theorem rdyMeaningful_append (h : List Record) (r : Record) :
    rdyMeaningful (h ++ [r]) = noteRdyWindow (rdyMeaningful h) r := by simp [rdyMeaningful]

/-- The first of the pair `polledReady` folds is the stretch alone. -/
theorem foldl_notePolled_fst (h : List Record) (p : Bool × Bool) :
    (h.foldl notePolled p).1 = h.foldl noteRdyWindow p.1 := by
  induction h generalizing p with
  | nil => rfl
  | cons r h ih => exact ih (notePolled p r)

theorem foldl_notePolled (h : List Record) :
    h.foldl notePolled (false, false) = (rdyMeaningful h, polledReady h) :=
  Prod.ext (foldl_notePolled_fst h _) rfl

@[simp] theorem polledReady_append (h : List Record) (r : Record) :
    polledReady (h ++ [r]) = (notePolled (rdyMeaningful h, polledReady h) r).2 := by
  rw [← foldl_notePolled]; simp [polledReady]

end Sys2Proof.Safety
end

