-- ==== Sys2Proof/Laws/PerInstr.lean ====
section
/-! SUPPORT. Statements made for every command, one lemma per constructor of `Instr`. -/

/-- The family `Laws.SelectsRow`: the encoded word selects its own row of the opcode map (30_encoding.md R51). -/
def Sys2Proof.Laws.SelectsRow.Statement (i : Sys2Proof.Instr) : Prop :=
  i.row.selects (Sys2Proof.encode i) = true

namespace Sys2Proof.Laws.SelectsRow

theorem begin : Statement .begin := rfl
theorem setp (imm8 : Byte) : Statement (.setp imm8) := by
  revert imm8; unfold Statement; decide
theorem start : Statement .start := rfl
theorem rdy : Statement .rdy := rfl
theorem read : Statement .read := rfl
theorem getTemp : Statement .getTemp := rfl
theorem getRaw : Statement .getRaw := rfl
theorem getAddr : Statement .getAddr := rfl
theorem isReading : Statement .isReading := rfl

end Sys2Proof.Laws.SelectsRow
end

