-- ==== Sys2Proof/Laws/Sequencer.lean ====
section
/-! SUPPORT. The micro-sequencer: what a step in the middle of a command is, and what a labelled statement and a whole
command add to the record. -/

namespace Sys2Proof.Machine

theorem step_of_busy {s : State} (h : s.seq ≠ .idle) : step s = .next (microStep s) := by
  unfold step
  split
  · exact absurd ‹_› h
  · rfl

theorem fineStep_of_busy {s : State} (h : s.seq ≠ .idle) : fineStep s = .next (microStep s) := by
  unfold fineStep
  split
  · exact absurd ‹_› h
  · rfl

/-- A labelled statement takes no host input. -/
theorem microStep_inputs (s : State) : (microStep s).inputs = s.inputs := by
  unfold microStep
  cases s.seq <;> simp only
  case startS0 => split <;> simp
  case readD0 => split <;> simp
  case beginB0 => split <;> simp
  case beginB1 => split <;> simp
  case beginB2 => split <;> simp
  all_goals simp

/-- A whole command always ends in IDLE. -/
theorem after_seq (i : Instr) (s : State) : (after i s).seq = .idle := by
  cases i
  case begin => rcases after_begin_cases s with h | h | ⟨_, h⟩ | ⟨_, _, h⟩ <;> rw [h] <;> simp
  case start => cases hb : s.bound <;> simp [after, hb, startSequence_spec]
  case read => cases hb : s.bound <;> simp [after, hb, readSequence_spec]
  all_goals simp [after]

/-- A whole command adds one record, its own; E_NOT_INITIALIZED exactly when it is a START or READ taken unbound. -/
theorem after_history (i : Instr) (s : State) : ∃ result err,
    (after i s).history = s.history ++ [.completed (some i) result err] ∧ err ≠ .illegalCommand ∧
      (err = .notInitialized ↔ (i = .start ∨ i = .read) ∧ s.bound = false) := by
  cases i
  case begin =>
    rcases after_begin_cases s with h | h | ⟨_, h⟩ | ⟨_, _, h⟩ <;> rw [h]
    · exact ⟨0, .noDevice, by simp, by decide, by simp⟩
    · exact ⟨0, .noDevice, by simp, by decide, by simp⟩
    · exact ⟨0, .noDevice, by simp, by decide, by simp⟩
    · exact ⟨1, .ok, by simp, by decide, by simp⟩
  case start =>
    cases hb : s.bound
    · exact ⟨0, .notInitialized, by simp [after, hb], by decide, by simp⟩
    · exact ⟨0, .ok, by simp [after, hb, startSequence_spec], by decide, by simp⟩
  case read =>
    cases hb : s.bound
    · exact ⟨0, .notInitialized, by simp [after, hb], by decide, by simp⟩
    · exact ⟨_, .ok, by simp only [after, hb, if_true, readSequence_spec]; rfl, by decide, by simp⟩
  all_goals exact ⟨_, .ok, rfl, by decide, by simp⟩

/-- A labelled statement adds nothing or the record its command ends with; E_NOT_INITIALIZED exactly at S0 or D0 when
unbound. -/
theorem microStep_history (s : State) :
    (microStep s).history = s.history ∧ ¬ ((s.seq = .startS0 ∨ s.seq = .readD0) ∧ s.bound = false) ∨
    ∃ cmd result err, (microStep s).history = s.history ++ [.completed cmd result err] ∧ err ≠ .illegalCommand ∧
      (err = .notInitialized ↔ (s.seq = .startS0 ∨ s.seq = .readD0) ∧ s.bound = false) := by
  cases hq : s.seq
  case idle => exact .inl ⟨by simp [microStep, hq], by simp⟩
  case startS0 =>
    cases hb : s.bound
    · exact .inr ⟨some .start, 0, .notInitialized, by simp [microStep, hq, hb], by decide, by simp⟩
    · exact .inl ⟨by simp [microStep, hq, hb], by simp⟩
  case readD0 =>
    cases hb : s.bound
    · exact .inr ⟨some .read, 0, .notInitialized, by simp [microStep, hq, hb], by decide, by simp⟩
    · exact .inl ⟨by simp [microStep, hq, hb], by simp⟩
  case beginB0 =>
    cases hp : presenceAnswer s.presences s.draws
    · exact .inr ⟨some .begin, 0, .noDevice, by simp [microStep, hq, hp], by decide, by simp⟩
    · exact .inl ⟨by simp [microStep, hq, hp], by simp⟩
  case beginB1 =>
    cases hp : searchAnswer s.finds s.draws
    · exact .inr ⟨some .begin, 0, .noDevice, by simp [microStep, hq, hp], by decide, by simp⟩
    · exact .inl ⟨by simp [microStep, hq, hp], by simp⟩
  case beginB2 c =>
    by_cases hc : crcOf c = (c : Address)[7]
    · exact .inr ⟨some .begin, 1, .ok, by simp [microStep, hq, hc], by decide, by simp⟩
    · exact .inr ⟨some .begin, 0, .noDevice, by simp [microStep, hq, hc], by decide, by simp⟩
  all_goals first
    | exact .inl ⟨by simp only [microStep, hq]; rfl, by simp⟩
    | exact .inr ⟨_, _, .ok, by simp only [microStep, hq]; rfl, by decide, by simp⟩

/-- A step from IDLE ends in IDLE. -/
theorem step_seq {s t : State} (hs : s.seq = .idle) (h : step s = .next t) : t.seq = .idle := by
  rcases step_cases h with ⟨_, _, rfl⟩ | ⟨_, _, _, rfl⟩ | ⟨_, _, _, _, _, _, rfl⟩ | ⟨_, _, _, _, _, _, rfl⟩ | ⟨h₁, _⟩
  · exact hs
  · simp
  · simp [illegalWord]
  · exact after_seq _ _
  · exact absurd hs h₁

end Sys2Proof.Machine
end

