-- ==== Sys2Proof/Tests/Slice0.lean ====
section
/-! SUPPORT. Tests. Expected values come from the spec: the tables of 30_encoding.md and the vectors of
95_test_vectors.md, whose names stand in the theorems' comments. After them, for every statement with hypotheses, a
state and operands that meet them. -/

namespace Sys2Proof.Tests

open Sys2Proof.Machine Sys2Proof.Safety

/-- The example address A of 95_test_vectors.md. -/
def addrA : Address := #v[0x28, 0x01, 0x02, 0x03, 0x04, 0x05, 0x06, 0x9E]
/-- The bad candidate of V-B4. -/
def addrBad : Address := #v[0x28, 0x01, 0x02, 0x03, 0x04, 0x05, 0x06, 0x00]

/-- Reset, with the answers a vector scripts. -/
def scripted (presences : List Bool) (bytes : List Byte) (finds : List (Option Address)) : State :=
  { State.reset with presences := presences, bytes := bytes, finds := finds }

/-- Bound to A, RESOLUTION `r`, CIP `c`, with the answers a vector scripts. -/
def boundToA (r : Byte) (c : Bool) (presences : List Bool) (bytes : List Byte) : State :=
  { scripted presences bytes [] with address := addrA, bound := true, resolution := r, cip := c }

/-- `(A, 1, 7F, [5E,FF], FF5E, 1)`, the state of V-A5 to V-A8. -/
def afterRead : State :=
  { boundToA 0x7F true [] [] with raw := ⟨0x5E, 0xFF⟩, temp := 0xFF5E, rawKnown := true }

def nextIs (p : State → Bool) : Host.Outcome State Fault Refusal → Bool
  | .next t => p t
  | _ => false

def endsWith (result : Result) (err : Err) (t : State) : Bool := t.lastOutputs == some (result, err)

/-! ## Checks refuse what is ill-formed -/

theorem test_line_operand_256_refused : (Line.setp 256).wellFormed = false := by decide
theorem test_line_operand_255_accepted : (Line.setp 255).wellFormed = true := by decide
theorem test_contract_breach_seen : (Instr.setp 0x00).inContract = false := by decide
theorem test_contract_breach_still_wellFormed : (Instr.setp 0x00).wellFormed = true := by decide

/-! ## Decoding: words written out bit by bit from 30_encoding.md R50, R51 (op, then imm8) -/

theorem test_decode_begin : decode 0b0001_00000000 = .ok .begin := by rfl
theorem test_decode_begin_V_E4 : decode 0b0001_11111111 = .ok .begin := by rfl
theorem test_decode_setp_V_E7 : decode 0b0010_01011010 = .ok (.setp 0x5A) := by rfl
theorem test_decode_start_V_E5 : decode 0b0011_10100101 = .ok .start := by rfl
theorem test_decode_rdy : decode 0b0100_00000000 = .ok .rdy := by rfl
theorem test_decode_read : decode 0b0101_00000000 = .ok .read := by rfl
theorem test_decode_getTemp : decode 0b0110_00000000 = .ok .getTemp := by rfl
theorem test_decode_getRaw : decode 0b0111_00000000 = .ok .getRaw := by rfl
theorem test_decode_getAddr : decode 0b1000_00000000 = .ok .getAddr := by rfl
theorem test_decode_isReading_V_E6 : decode 0b1001_11111111 = .ok .isReading := by rfl
theorem test_decode_illegal_V_E1 : decode 0b0000_00000000 = .error (.illegalOpcode 0x0) := by rfl
theorem test_decode_illegal_V_E2 : decode 0b1010_00000000 = .error (.illegalOpcode 0xA) := by rfl
theorem test_decode_illegal_V_E3 : decode 0b1111_11111111 = .error (.illegalOpcode 0xF) := by rfl
theorem test_decode_illegal_V_E8 : decode 0b0000_11111111 = .error (.illegalOpcode 0x0) := by rfl
theorem test_table_word_setp : decodeTableWord 16 0x27F = some (.setp 0x7F) := by rfl

/-! ## One step per command (95_test_vectors.md part 2) -/

-- V-B2: no presence, no search
theorem test_begin_V_B2 :
    nextIs (fun t => endsWith 0 .noDevice t && t.bound == false && t.trace == [.reset false])
      (exec .begin (scripted [false] [] [])) = true := by decide
-- V-B1: success, the crc8 answer scripted
theorem test_begin_V_B1 (h : Config.crc8 [0x28, 0x01, 0x02, 0x03, 0x04, 0x05, 0x06] 7 = 0x9E) :
    exec .begin (scripted [true] [] [some addrA]) = .next
      { scripted [] [] [] with
        address := addrA
        bound := true
        draws := 12
        trace := [.reset true, .search (some addrA), .crc8 [0x28, 0x01, 0x02, 0x03, 0x04, 0x05, 0x06] 7 0x9E]
        history := [.completed (some .begin) 1 .ok] } := by
  have hc : crcOf addrA = 0x9E := h
  have hp : presenceAnswer (scripted [true] [] [some addrA]).presences (scripted [true] [] [some addrA]).draws = true := rfl
  have hf : searchAnswer (scripted [true] [] [some addrA]).finds ((scripted [true] [] [some addrA]).draws + 1)
      = some addrA := rfl
  rw [exec_eq_after, after_begin_match hp hf hc]
  simp [State.complete, State.bindTo, State.busCrc8, State.busSearch, State.busReset, scripted, State.reset,
    presenceAnswer, searchAnswer, firstSeven, addrA]
  exact hc
-- V-P5: an out-of-set byte is stored, no error
theorem test_setp_V_P5 :
    nextIs (fun t => endsWith 0 .ok t && t.resolution == 0x00 && t.trace == []) (exec (.setp 0x00) State.reset) = true := by
  decide
-- V-S5: presence ignored, the ten calls
theorem test_start_V_S5 :
    nextIs (fun t => endsWith 0 .ok t && t.cip && t.trace == [.reset false, .select addrA, .write 0x4E, .write 0x00,
        .write 0x00, .write 0x2F, .write 0x48, .reset false, .select addrA, .write 0x44])
      (exec .start (boundToA 0x2F false [false, false] [])) = true := by decide
-- V-S8: not bound
theorem test_start_V_S8 :
    nextIs (fun t => endsWith 0 .notInitialized t && t.cip == false && t.trace == []) (exec .start State.reset) = true := by
  decide
-- V-Y4: the byte unchanged
theorem test_rdy_V_Y4 :
    nextIs (fun t => endsWith 0x80 .ok t && t.cip && t.trace == [.read 0x80])
      (exec .rdy (boundToA 0x2F true [] [0x80])) = true := by decide
-- V-D4: low byte first, no sign extension into RESULT
theorem test_read_V_D4 :
    nextIs (fun t => endsWith 0xFF00 .ok t && t.raw == ⟨0x00, 0xFF⟩ && t.temp == 0xFF00 && t.cip == false &&
        t.trace == [.reset true, .select addrA, .write 0xBE, .read 0x00, .read 0xFF])
      (exec .read (boundToA 0x2F false [true] [0x00, 0xFF])) = true := by decide
-- V-D5: not bound, CIP not cleared
theorem test_read_V_D5 :
    nextIs (fun t => endsWith 0 .notInitialized t && t.cip && t.trace == [])
      (exec .read { State.reset with cip := true }) = true := by decide
-- V-A5 to V-A8, V-A1, V-A4
theorem test_getTemp_V_A5 : nextIs (endsWith 0xFF5E .ok) (exec .getTemp afterRead) = true := by decide
theorem test_getTemp_V_A1 : nextIs (endsWith 0 .ok) (exec .getTemp State.reset) = true := by decide
theorem test_getRaw_V_A6 : nextIs (endsWith 0xFF5E .ok) (exec .getRaw afterRead) = true := by decide
theorem test_getAddr_V_A7 : nextIs (endsWith 0x9E06050403020128 .ok) (exec .getAddr afterRead) = true := by decide
theorem test_isReading_V_A8 : nextIs (endsWith 1 .ok) (exec .isReading afterRead) = true := by decide
theorem test_isReading_V_A4 : nextIs (endsWith 0 .ok) (exec .isReading State.reset) = true := by decide

/-! ## The step -/

-- the first command after reset (V-P4)
theorem test_step_runs_fetched_word :
    nextIs (fun t => endsWith 0 .ok t && t.resolution == 0x7F) (step (State.reset.withFetchWord 16 0x27F)) = true := by decide
-- V-E2
theorem test_step_illegal_word :
    nextIs (fun t => endsWith 0 .illegalCommand t && t.trace == []) (step (State.reset.withFetchWord 16 0xA00)) = true := by
  decide

/-! ## The converter, RESULT views and the assembler (95_test_vectors.md 2.1; 30_encoding.md R61) -/

theorem test_views_V_C13 : convert ⟨0x5E, 0xFF⟩ = 0xFF5E ∧ intView 0xFF5E = -11 ∧ fracView 0xFF5E = 14 := by decide
theorem test_ready_V_Y3 : hostReady 0x01 = true ∧ hostReady 0x00 = false := by decide
theorem test_parse_setp_hex : parseLine "SETP 0x7F ; 12 bits".toList = .line (.setp 0x7F) := by decide
theorem test_parse_setp_decimal_256 : parseLine "SETP 256".toList = .bad := by decide
theorem test_parse_pseudo : parseLine "SETP.10".toList = .line .setp10 := by decide
theorem test_parse_lower_case : parseLine "start".toList = .bad := by decide

/-! ## States and operands that meet the hypotheses of the statements -/

theorem test_meets_DecodeOfEncodeIsTheCommand :
    (∀ x, Instr.start ≠ .setp x) ∧ opcodeOf 0x3A5 = opcodeOf (encode .start) := ⟨by simp, by decide⟩
theorem test_meets_EncodeOfDecodeIsTheCanonicalWord :
    decode 0x25A = .ok (.setp 0x5A) ∧ decode 0x3A5 = .ok .start ∧ ∀ x, Instr.start ≠ .setp x := ⟨rfl, rfl, by simp⟩
theorem test_meets_WordSelectsExactlyTheRowItDecodesTo :
    decode 0x1FF = .ok .begin ∧ Instr.begin.row.selects 0x1FF = true := ⟨rfl, by decide⟩
theorem test_meets_StepRunsTheDecodedCommand :
    ({ State.reset with inputs := [.command 0x300] } : State).seq = .idle ∧ decode 0x300 = .ok .start := ⟨rfl, rfl⟩
theorem test_meets_IllegalWordIsReportedAndChangesNothing :
    ({ State.reset with inputs := [.command 0xA55] } : State).seq = .idle ∧ 0xA ≤ (opcodeOf 0xA55).toNat ∧
      opcodeOf 0x000 = 0x0 ∧ 0xA ≤ (opcodeOf 0xFFF).toNat := by decide
theorem test_meets_BlockWaitsInIdleWithoutInput : State.reset.seq = .idle ∧ State.reset.inputs = [] := ⟨rfl, rfl⟩
theorem test_meets_ResetInputBringsTheResetValues :
    ({ State.reset with inputs := [.reset] } : State).seq = .idle ∧
      ({ State.reset with inputs := [.reset] } : State).inputs = .reset :: [] := ⟨rfl, rfl⟩
theorem test_meets_OnlyResetDuringACommandStopsAStep :
    step { State.reset with inputs := [.commandCutByReset 0x300] } = .refused .resetDuringCommand := rfl

/-- An address that passes the CRC check whatever `crc8` is. -/
def goodAddr : Address := #v[0, 0, 0, 0, 0, 0, 0, Config.crc8 [0, 0, 0, 0, 0, 0, 0] 7]
/-- An address that fails it whatever `crc8` is. -/
def poorAddr : Address := #v[0, 0, 0, 0, 0, 0, 0, Config.crc8 [0, 0, 0, 0, 0, 0, 0] 7 + 1]

theorem goodAddr_passes : crcOf goodAddr = goodAddr[7] := rfl
theorem poorAddr_fails : crcOf poorAddr ≠ poorAddr[7] := by
  show Config.crc8 [0, 0, 0, 0, 0, 0, 0] 7 ≠ Config.crc8 [0, 0, 0, 0, 0, 0, 0] 7 + 1
  generalize Config.crc8 [0, 0, 0, 0, 0, 0, 0] 7 = k
  revert k; decide

-- BeginBindsACandidateThatPassesTheCrc, BeginAcceptsExactlyOnTheCrcTest (both outcomes of its test)
theorem test_meets_BeginBindsACandidateThatPassesTheCrc :
    let s := scripted [true] [] [some goodAddr]
    presenceAnswer s.presences s.draws = true ∧ searchAnswer s.finds (s.draws + 1) = some goodAddr ∧
      Config.crc8 [goodAddr[0], goodAddr[1], goodAddr[2], goodAddr[3], goodAddr[4], goodAddr[5], goodAddr[6]] 7
        = goodAddr[7] := ⟨rfl, rfl, goodAddr_passes⟩
theorem test_meets_BeginFailsFastOnACrcMismatch :
    let s := scripted [true] [] [some poorAddr]
    presenceAnswer s.presences s.draws = true ∧ searchAnswer s.finds (s.draws + 1) = some poorAddr ∧
      Config.crc8 [poorAddr[0], poorAddr[1], poorAddr[2], poorAddr[3], poorAddr[4], poorAddr[5], poorAddr[6]] 7
        ≠ poorAddr[7] := ⟨rfl, rfl, poorAddr_fails⟩
theorem test_meets_BeginFailsWithoutPresence :
    presenceAnswer (scripted [false] [] []).presences (scripted [false] [] []).draws = false := rfl
theorem test_meets_BeginFailsWhenTheSearchIsExhausted :
    let s := scripted [true] [] [none]
    presenceAnswer s.presences s.draws = true ∧ searchAnswer s.finds (s.draws + 1) = none := ⟨rfl, rfl⟩

/-- A bound state that meets the invariant. -/
def boundGood : State :=
  { State.reset with address := goodAddr, bound := true, history := [.completed (some .begin) 1 .ok] }

theorem boundGood_inv : Inv boundGood :=
  ⟨fun _ => rfl, rfl, nofun, rfl, nofun, fun _ => rfl, rfl, rfl⟩

-- SetpTakesEffectAtTheNextStart, EveryStepKeepsTheInvariant, OnlyABoundAddressIsSelected
theorem test_meets_SetpTakesEffectAtTheNextStart :
    Inv boundGood ∧ boundGood.bound = true ∧ (∃ t, exec .start boundGood = .next t) ∧
      ∃ t, exec (.setp 0x7F) boundGood = .next t := ⟨boundGood_inv, rfl, ⟨_, rfl⟩, ⟨_, rfl⟩⟩
theorem test_meets_OnlyABoundAddressIsSelected :
    let s := { boundGood with inputs := [.command 0x300] }
    Inv s ∧ ∃ t events, step s = .next t ∧ t.trace = s.trace ++ events ∧ BusEvent.select goodAddr ∈ events := by
  refine ⟨⟨fun _ => rfl, rfl, nofun, rfl, nofun, fun _ => rfl, rfl, rfl⟩,
    after .start { boundGood with inputs := [] }, _, rfl, rfl, ?_⟩
  exact List.mem_cons_of_mem _ (List.mem_cons_self ..)
-- in IDLE, and in the middle of a START
theorem test_meets_EveryStepKeepsTheInvariant :
    (Inv boundGood ∧ ∃ t, step boundGood = .next t) ∧
    (let s := { boundGood with seq := .startS6 }
     Inv s ∧ pastBoundCheck s.seq = true ∧ ∃ t, step s = .next t) :=
  ⟨⟨boundGood_inv, ⟨_, rfl⟩⟩, ⟨fun _ => rfl, rfl, fun _ => rfl, rfl, nofun, fun _ => rfl, rfl, rfl⟩, rfl, ⟨_, rfl⟩⟩

-- StartSendsExactlyItsTenCalls, ReadStoresTheTwoBytesRead, GetAddrReturnsTheBoundAddress
theorem test_meets_ReadStoresTheTwoBytesRead :
    let s := boundToA 0x2F true [true] [0x91, 0x01]
    s.bound = true ∧ byteAnswer s.bytes (s.draws + 1) = 0x91 ∧ byteAnswer s.bytes.tail (s.draws + 2) = 0x01 := by decide
theorem test_meets_StartSendsExactlyItsTenCalls : (boundToA 0x7F false [true, true] []).bound = true := rfl
theorem test_meets_GetAddrReturnsTheBoundAddress : afterRead.bound = true := rfl
-- UnboundStartAndReadReportNotInitialized, GetAddrDrawsWhenUnbound, GetRawDrawsBeforeAnyRead, UnspecifiedRegistersNeverShow
theorem test_meets_UnboundStartAndReadReportNotInitialized : State.reset.bound = false := rfl
theorem test_meets_GetAddrDrawsWhenUnbound : State.reset.bound = false := rfl
theorem test_meets_GetRawDrawsBeforeAnyRead : State.reset.rawKnown = false := rfl
theorem test_meets_GetRawReturnsRawOnceRead : afterRead.rawKnown = true := rfl
theorem test_meets_UnspecifiedRegistersNeverShow :
    (∃ t, exec .getAddr State.reset = .next t) ∧ State.reset.bound = false ∧ Instr.getAddr ≠ .begin ∧
      State.reset.rawKnown = false ∧ Instr.getAddr ≠ .read ∧ (∃ t, exec .begin State.reset = .next t) ∧
      (∃ t, exec .read afterRead = .next t) ∧ afterRead.bound = true :=
  ⟨⟨_, rfl⟩, rfl, by decide, rfl, by decide, ⟨_, rfl⟩, ⟨_, rfl⟩, rfl⟩
theorem test_meets_AccessorsAreReadsWithoutEffect :
    ∀ i : Instr, i = .getTemp ∨ i = .getRaw ∨ i = .getAddr ∨ i = .isReading → ∃ t, exec i State.reset = .next t := by
  rintro i (rfl | rfl | rfl | rfl) <;> exact ⟨_, rfl⟩
-- CommandsWriteOnlyWhatTheMatrixAllows, CipGatesNothing, CommandsReadOnlyWhatTheMatrixAllows
theorem test_meets_CommandsWriteOnlyWhatTheMatrixAllows : ∀ i : Instr, ∃ t, exec i afterRead = .next t :=
  fun i => ⟨_, exec_eq_after i afterRead⟩
theorem test_meets_CipGatesNothing : Instr.start ≠ .isReading ∧ ∃ t, exec .start afterRead = .next t :=
  ⟨by decide, ⟨_, rfl⟩⟩
theorem test_meets_CommandsReadOnlyWhatTheMatrixAllows :
    (Instr.rdy ≠ .begin ∧ Instr.rdy ≠ .start ∧ Instr.rdy ≠ .read ∧ Instr.rdy ≠ .getAddr ∧ Instr.rdy ≠ .getRaw ∧
      Instr.rdy ≠ .getTemp ∧ (∀ x, Instr.rdy ≠ .setp x) ∧ ∃ t, exec .rdy afterRead = .next t) ∧
    ∀ i : Instr, (i = .setp 0x7F ∨ i = .begin ∨ i = .read) → ∃ t, exec i afterRead = .next t :=
  ⟨⟨by decide, by decide, by decide, by decide, by decide, by decide, by simp, ⟨_, rfl⟩⟩,
    fun i _ => ⟨_, exec_eq_after i afterRead⟩⟩
theorem test_meets_PresenceIsDiscardedOutsideBegin : Instr.read = .start ∨ Instr.read = .read := .inr rfl
-- ModeIsAFunctionOfBoundAndCip and ModeTransitionsAreTheTable: each mode has a state
theorem test_meets_ModeIsAFunctionOfBoundAndCip :
    State.reset.mode = .uninit ∧ boundGood.mode = .idleMode ∧ afterRead.mode = .converting := ⟨rfl, rfl, rfl⟩
theorem test_meets_ModeTransitionsAreTheTable :
    (after .begin (scripted [true] [] [some goodAddr])).bound = true ∧
      (after .begin (scripted [false] [] [])).bound = false := by
  refine ⟨?_, by decide⟩
  rw [after_begin_match (cand := goodAddr) rfl rfl goodAddr_passes]; rfl
-- ErrorsArePrecise, both clauses; CheckedStepFaultsExactlyOnTheTwoErrors
theorem test_meets_ErrorsArePrecise :
    (∃ t, exec .start State.reset = .next t ∧
      t.history = State.reset.history ++ [.completed (some .start) 0 .notInitialized]) ∧
    (∃ t, step { State.reset with inputs := [.command 0x000] } = .next t ∧
      t.history = State.reset.history ++ [.completed none 0 .illegalCommand]) := ⟨⟨_, rfl, rfl⟩, ⟨_, rfl, rfl⟩⟩
-- both faults from IDLE, at both labels, and neither fault: a command, the reset inputs, the middle of a command
theorem test_meets_CheckedStepFaultsExactlyOnTheTwoErrors :
    checkedStep { State.reset with inputs := [.command 0x000] } = .fault .illegalCommand ∧
      checkedStep { State.reset with inputs := [.command 0x300] } = .fault .notInitialized ∧
      checkedStep { State.reset with seq := .startS0 } = .fault .notInitialized ∧
      checkedStep { State.reset with seq := .readD0 } = .fault .notInitialized ∧
      ∀ s ∈ [{ State.reset with inputs := [.command 0x600] }, { State.reset with inputs := [.reset] },
          { State.reset with inputs := [.commandCutByReset 0x300] }, { boundGood with seq := .startS0 }],
        ∀ f, checkedStep s ≠ .fault f :=
  ⟨rfl, rfl, rfl, rfl, by
    simp only [List.forall_mem_cons, List.not_mem_nil, false_implies, implies_true, and_true]
    exact ⟨nofun, nofun, nofun, nofun⟩⟩
theorem test_meets_FaultMarkIsSetByTheTwoErrorsAndNeverCleared :
    faulted State.reset = false ∧
    (∃ t, step { State.reset with inputs := [.command 0x300] } = .next t ∧
      t.history = [.completed (some .start) 0 .notInitialized] ∧ faulted t = true) ∧
    (∃ t, step { State.reset with inputs := [.command 0xFFF] } = .next t ∧
      t.history = [.completed none 0 .illegalCommand] ∧ faulted t = true) :=
  ⟨rfl, ⟨_, rfl, rfl, rfl⟩, ⟨_, rfl, rfl, rfl⟩⟩
-- the four clauses; RDY ready between START and READ, and after an early READ (70_reset_and_hazards.md R151)
theorem test_meets_WaitDutyBelongsToTheByteStartSent :
    (Inv boundGood ∧ boundGood.bound = true ∧ ∃ t, exec .start boundGood = .next t) ∧
    (∃ t, exec (.setp 0x7F) boundGood = .next t) ∧
    (let s := { boundGood with history := [.completed (some .start) 0 .ok], bytes := [0xFF] }
     rdyMeaningful s.history = true ∧ byteAnswer s.bytes s.draws ≠ 0x00 ∧ ∃ t, exec .rdy s = .next t) ∧
    (∃ t, exec .read boundGood = .next t) ∧ ∃ t, exec .begin boundGood = .next t :=
  ⟨⟨boundGood_inv, rfl, ⟨_, rfl⟩⟩, ⟨_, rfl⟩, ⟨rfl, by decide, ⟨_, rfl⟩⟩, ⟨_, rfl⟩, ⟨_, rfl⟩⟩
theorem test_rdy_after_early_read_is_no_wait :
    polledReady [.completed (some .start) 0 .ok, .completed (some .read) 0 .ok, .completed (some .rdy) 0xFF .ok] = false ∧
      polledReady [.completed (some .start) 0 .ok, .completed (some .rdy) 0xFF .ok] = true := by decide
-- StepsOnlyAppendToTheRecord, OnlyTheProtocolBytesAreWritten
theorem test_meets_OnlyTheProtocolBytesAreWritten :
    let s := { boundToA 0x2F false [true, true] [] with inputs := [.command 0x300] }
    ∃ t events, step s = .next t ∧ t.trace = s.trace ++ events ∧ BusEvent.write 0x4E ∈ events := by
  refine ⟨after .start (boundToA 0x2F false [true, true] []), _, rfl, rfl, ?_⟩
  exact List.mem_cons_of_mem _ (List.mem_cons_of_mem _ (List.mem_cons_self ..))
theorem test_meets_StepsOnlyAppendToTheRecord :
    (∃ t, step { boundGood with seq := .startS6 } = .next t) ∧ ∃ t, step State.reset = .next t := ⟨⟨_, rfl⟩, ⟨_, rfl⟩⟩
-- EveryRunFromResetKeepsTheFourInvariants, StepIsTheRunOfItsMicroSteps, EveryCommandReachesIdle, WaitEndsAtTheFirstReadyByte
theorem test_meets_EveryRunFromResetKeepsTheFourInvariants :
    (∃ t, Host.Core.run Sys2Proof.core 1 { State.reset with inputs := [.command 0x27F] } = .next t ∧
      readCompleted t.history = false) ∧
    ∃ t, Host.Core.run Sys2Proof.core 2
        { scripted [true] [0x91, 0x01] [some goodAddr] with inputs := [.command 0x100, .command 0x500] } = .next t ∧
      t.bound = true ∧ readCompleted t.history = true := by
  refine ⟨⟨_, rfl, rfl⟩, ?_⟩
  have h₁ : step { scripted [true] [0x91, 0x01] [some goodAddr] with inputs := [.command 0x100, .command 0x500] } =
      .next (after .begin { scripted [true] [0x91, 0x01] [some goodAddr] with inputs := [.command 0x500] }) := rfl
  rw [after_begin_match (cand := goodAddr) rfl rfl goodAddr_passes] at h₁
  have h₂ : ∃ t, step (((({ scripted [true] [0x91, 0x01] [some goodAddr] with inputs := [.command 0x500] } :
      State).busReset.busSearch.busCrc8 goodAddr).bindTo goodAddr).complete (some .begin) 1 .ok) = .next t ∧
      t.bound = true ∧ readCompleted t.history = true := ⟨_, rfl, rfl, rfl⟩
  obtain ⟨t, ht, hb, hr⟩ := h₂
  refine ⟨t, ?_, hb, hr⟩
  simp only [Host.Core.run, show Sys2Proof.core.step = step from rfl, h₁]
  rw [ht]
theorem test_meets_StepIsTheRunOfItsMicroSteps : State.reset.seq = .idle := rfl
theorem test_meets_EveryCommandReachesIdle : ({ boundGood with seq := .startS1 } : State).seq ≠ .idle := by simp
theorem test_meets_WaitEndsAtTheFirstReadyByte :
    let s := scripted [] [0x00, 0x00, 0xFF] []
    s.seq = .idle ∧ s.bytes = List.replicate 2 0x00 ++ 0xFF :: [] ∧ (0xFF : Byte) ≠ 0x00 := by decide
theorem test_meets_CelsiusRangeAndStep : (0x0000 : Q4) ≠ 0x0001 := by decide

end Sys2Proof.Tests
end

namespace Sys2Proof.Machine

/-! What a step from IDLE comes to for a delivered word, and that no step raises a fault of its own. -/

theorem step_of_illegal {s : State} {w : Command} {rest : List HostInput} {e : DecodeError} (hs : s.seq = .idle)
    (hw : s.inputs = .command w :: rest) (hd : decode w = .error e) :
    step s = .next (illegalWord { s with inputs := rest }) := by
  simp [step, take, hs, hw, hd]

theorem step_of_command {s : State} {w : Command} {rest : List HostInput} {i : Instr} (hs : s.seq = .idle)
    (hw : s.inputs = .command w :: rest) (hd : decode w = .ok i) :
    step s = .next (after i { s with inputs := rest }) := by
  simp [step, take, hs, hw, hd, exec_eq_after]

theorem step_ne_fault (s : State) (f : Fault) : step s ≠ .fault f := by
  by_cases hs : s.seq = .idle
  · simp only [step, hs]
    cases take s with
    | command i t => simp [exec_eq_after]
    | cutByReset => simp [refuseReset]
    | nothing | reset | illegal => simp
  · simp [step_of_busy hs]

end Sys2Proof.Machine

namespace Sys2Proof.Safety

open Sys2Proof.Machine

/-! The fault a step adds to the record, for each way the record can grow. -/

@[simp] theorem faultSince_self (h : List Record) : faultSince h.length h = none := by simp [faultSince]

@[simp] theorem faultSince_append (h : List Record) (r : Record) :
    faultSince h.length (h ++ [r]) = recordFault r := by
  cases hr : recordFault r <;> simp [faultSince, hr]

theorem recordFault_completed {err : Err} (cmd : Option Instr) (result : Result) (h : err ≠ .illegalCommand) :
    recordFault (.completed cmd result err) = if err = .notInitialized then some .notInitialized else none := by
  cases err with
  | illegalCommand => exact absurd rfl h
  | ok | noDevice | notInitialized | invalidConfiguration => rfl

theorem faultSince_illegalWord (s : State) :
    faultSince s.history.length (illegalWord s).history = some .illegalCommand := by
  simp [illegalWord, recordFault]

theorem faultSince_after (i : Instr) (s : State) :
    faultSince s.history.length (after i s).history =
      if (i = .start ∨ i = .read) ∧ s.bound = false then some .notInitialized else none := by
  obtain ⟨result, err, hh, hne, herr⟩ := after_history i s
  simp only [hh, faultSince_append, recordFault_completed _ _ hne, herr]

theorem faultSince_microStep (s : State) :
    faultSince s.history.length (microStep s).history =
      if (s.seq = .startS0 ∨ s.seq = .readD0) ∧ s.bound = false then some .notInitialized else none := by
  rcases microStep_history s with ⟨hh, hno⟩ | ⟨cmd, result, err, hh, hne, herr⟩
  · rw [hh, faultSince_self, if_neg hno]
  · simp only [hh, faultSince_append, recordFault_completed _ _ hne, herr]

/-! `checkedStep`: equal to `step` where it does not fault, and the fault `f` exactly when the step adds `f` to the record. -/

theorem checkedStep_eq_step {s : State} (h : ∀ f, checkedStep s ≠ .fault f) : checkedStep s = step s := by
  unfold checkedStep at h ⊢
  cases hs : step s with
  | next t =>
    cases hf : faultSince s.history.length t.history with
    | none => simp [hf]
    | some f => simp [hs, hf] at h
  | fault f => rfl
  | refused r => rfl

theorem checkedStep_eq_fault_iff {s : State} {f : Fault} :
    checkedStep s = .fault f ↔ ∃ t, step s = .next t ∧ faultSince s.history.length t.history = some f := by
  unfold checkedStep
  cases hs : step s with
  | next t => cases hf : faultSince s.history.length t.history <;> simp [hf]
  | fault g => exact absurd hs (step_ne_fault s g)
  | refused r => simp

/-! The three ways a checked step faults, and that there is no other (60_exceptions.md R122, R124). -/

theorem checkedStep_of_illegal {s : State} {w : Command} {rest : List HostInput} {e : DecodeError}
    (hs : s.seq = .idle) (hw : s.inputs = .command w :: rest) (hd : decode w = .error e) :
    checkedStep s = .fault .illegalCommand :=
  checkedStep_eq_fault_iff.2 ⟨_, step_of_illegal hs hw hd, faultSince_illegalWord { s with inputs := rest }⟩

theorem checkedStep_of_unbound_command {s : State} {w : Command} {rest : List HostInput} {i : Instr}
    (hs : s.seq = .idle) (hw : s.inputs = .command w :: rest) (hd : decode w = .ok i) (hi : i = .start ∨ i = .read)
    (hb : s.bound = false) : checkedStep s = .fault .notInitialized :=
  checkedStep_eq_fault_iff.2
    ⟨_, step_of_command hs hw hd, (faultSince_after i { s with inputs := rest }).trans (if_pos ⟨hi, hb⟩)⟩

theorem checkedStep_of_unbound_label {s : State} (hq : s.seq = .startS0 ∨ s.seq = .readD0) (hb : s.bound = false) :
    checkedStep s = .fault .notInitialized :=
  have hs : s.seq ≠ .idle := by rcases hq with hq | hq <;> simp [hq]
  checkedStep_eq_fault_iff.2 ⟨_, step_of_busy hs, (faultSince_microStep s).trans (if_pos ⟨hq, hb⟩)⟩

theorem checkedStep_fault_cases {s : State} {f : Fault} (h : checkedStep s = .fault f) :
    (f = .illegalCommand ∧ s.seq = .idle ∧ ∃ w rest e, s.inputs = .command w :: rest ∧ decode w = .error e) ∨
    (f = .notInitialized ∧ s.bound = false ∧ s.seq = .idle ∧
      ∃ w rest i, s.inputs = .command w :: rest ∧ decode w = .ok i ∧ (i = .start ∨ i = .read)) ∨
    (f = .notInitialized ∧ s.bound = false ∧ (s.seq = .startS0 ∨ s.seq = .readD0)) := by
  obtain ⟨t, ht, hf⟩ := checkedStep_eq_fault_iff.1 h
  rcases step_cases ht with ⟨-, -, rfl⟩ | ⟨rest, -, -, rfl⟩ | ⟨w, rest, e, hs, hw, hd, rfl⟩ |
    ⟨w, rest, i, hs, hw, hd, rfl⟩ | ⟨-, rfl⟩
  · simp at hf
  · simp [recordFault] at hf
  · rw [faultSince_illegalWord { s with inputs := rest }] at hf
    exact .inl ⟨(Option.some.inj hf).symm, hs, w, rest, e, hw, hd⟩
  · rw [faultSince_after i { s with inputs := rest }] at hf
    obtain ⟨⟨hi, hb⟩, hf⟩ := Option.ite_none_right_eq_some.1 hf
    exact .inr (.inl ⟨(Option.some.inj hf).symm, hb, hs, w, rest, i, hw, hd, hi⟩)
  · rw [faultSince_microStep] at hf
    obtain ⟨⟨hq, hb⟩, hf⟩ := Option.ite_none_right_eq_some.1 hf
    exact .inr (.inr ⟨(Option.some.inj hf).symm, hb, hq⟩)

theorem checkedStep_eq_illegalCommand_iff (s : State) :
    checkedStep s = .fault .illegalCommand ↔
      s.seq = .idle ∧ ∃ w rest e, s.inputs = .command w :: rest ∧ decode w = .error e := by
  constructor
  · intro h
    rcases checkedStep_fault_cases h with ⟨-, h⟩ | ⟨hf, -⟩ | ⟨hf, -⟩
    · exact h
    · cases hf
    · cases hf
  · rintro ⟨hs, w, rest, e, hw, hd⟩
    exact checkedStep_of_illegal hs hw hd

theorem checkedStep_eq_notInitialized_iff (s : State) :
    checkedStep s = .fault .notInitialized ↔
      s.bound = false ∧
        (s.seq = .startS0 ∨ s.seq = .readD0 ∨
          s.seq = .idle ∧ ∃ w rest, s.inputs = .command w :: rest ∧
            (decode w = .ok .start ∨ decode w = .ok .read)) := by
  constructor
  · intro h
    rcases checkedStep_fault_cases h with ⟨hf, -⟩ | ⟨-, hb, hs, w, rest, i, hw, hd, rfl | rfl⟩ | ⟨-, hb, hq⟩
    · cases hf
    · exact ⟨hb, .inr (.inr ⟨hs, w, rest, hw, .inl hd⟩)⟩
    · exact ⟨hb, .inr (.inr ⟨hs, w, rest, hw, .inr hd⟩)⟩
    · exact ⟨hb, or_assoc.1 (.inl hq)⟩
  · rintro ⟨hb, hq | hq | ⟨hs, w, rest, hw, hd | hd⟩⟩
    · exact checkedStep_of_unbound_label (.inl hq) hb
    · exact checkedStep_of_unbound_label (.inr hq) hb
    · exact checkedStep_of_unbound_command hs hw hd (.inl rfl) hb
    · exact checkedStep_of_unbound_command hs hw hd (.inr rfl) hb

/-- Settles O46: the two faults by the record the step adds, and no fault of `step` itself. -/
theorem checkedStepFaultsExactlyOnTheTwoErrors : Obligations.CheckedStepFaultsExactlyOnTheTwoErrors :=
  fun s => ⟨checkedStep_eq_illegalCommand_iff s, checkedStep_eq_notInitialized_iff s, checkedStep_eq_step⟩

end Sys2Proof.Safety

namespace Sys2Proof.Machine

/-! Runs of labelled statements: a command at the grain of R18, from its first label to IDLE. -/

/-- `n` labelled statements lead from `s` to `t`, and SEQ is not IDLE before each of them (10_state.md R18(b)). -/
def BusyRun : Nat → State → State → Prop
  | 0, s, t => t = s
  | n + 1, s, t => s.seq ≠ .idle ∧ BusyRun n (microStep s) t

theorem coreRun_succ (n : Nat) (s t : State) :
    Host.Core.run Sys2Proof.core (n + 1) s = .next t ↔
      ∃ u, step s = .next u ∧ Host.Core.run Sys2Proof.core n u = .next t := by
  have hcore : Sys2Proof.core.step = step := rfl
  simp only [Host.Core.run, hcore]
  cases step s <;> simp

theorem BusyRun.coreRun {n : Nat} {s t : State} (h : BusyRun n s t) : Host.Core.run Sys2Proof.core n s = .next t := by
  induction n generalizing s with
  | zero => cases h; rfl
  | succ n ih => exact (coreRun_succ n s t).2 ⟨_, step_of_busy h.1, ih h.2⟩

theorem BusyRun.fineRun {n : Nat} {s t : State} (h : BusyRun n s t) : fineRun n s = .next t := by
  induction n generalizing s with
  | zero => cases h; rfl
  | succ n ih =>
    simp only [Machine.fineRun, fineStep_of_busy h.1]
    exact ih h.2

theorem BusyRun.inputs {n : Nat} {s t : State} (h : BusyRun n s t) : t.inputs = s.inputs := by
  induction n generalizing s with
  | zero => cases h; rfl
  | succ n ih => exact (ih h.2).trans (microStep_inputs s)

/-- Before its last statement a busy run stands at a busy state. -/
theorem BusyRun.busy_before {n k : Nat} {s t : State} (h : BusyRun n s t) (hk : k < n) :
    ∃ m, Machine.fineRun k s = .next m ∧ m.seq ≠ .idle := by
  induction n generalizing s k with
  | zero => omega
  | succ n ih =>
    obtain ⟨hs, h⟩ := h
    cases k with
    | zero => exact ⟨s, rfl, hs⟩
    | succ k =>
      simp only [Machine.fineRun, fineStep_of_busy hs]
      exact ih h (by omega)

/-- What every labelled statement keeps, a busy run keeps. -/
theorem BusyRun.keeps {P : State → Prop} (hP : ∀ s, P s → P (microStep s)) {n : Nat} {s t : State}
    (h : BusyRun n s t) (hs : P s) : P t := by
  induction n generalizing s with
  | zero => cases h; exact hs
  | succ n ih => exact ih h.2 (hP s hs)

/-! SEQ is read by no operation, so a move to a label can be put off to the end, where `done` overwrites it. -/

@[simp] theorem goto_goto (s : State) (l l' : Seq) : (s.goto l).goto l' = s.goto l' := rfl
@[simp] theorem goto_busReset (s : State) (l : Seq) : (s.goto l).busReset = s.busReset.goto l := rfl
@[simp] theorem goto_busSelect (s : State) (l : Seq) (a : Address) :
    (s.goto l).busSelect a = (s.busSelect a).goto l := rfl
@[simp] theorem goto_busWrite (s : State) (l : Seq) (b : Byte) : (s.goto l).busWrite b = (s.busWrite b).goto l := rfl
@[simp] theorem goto_busRead (s : State) (l : Seq) : (s.goto l).busRead = s.busRead.goto l := rfl
@[simp] theorem goto_busSearch (s : State) (l : Seq) : (s.goto l).busSearch = s.busSearch.goto l := rfl
@[simp] theorem goto_busCrc8 (s : State) (l : Seq) (c : Address) : (s.goto l).busCrc8 c = (s.busCrc8 c).goto l := rfl
@[simp] theorem goto_bindTo (s : State) (l : Seq) (c : Address) : (s.goto l).bindTo c = (s.bindTo c).goto l := rfl
@[simp] theorem goto_setCip (s : State) (l : Seq) (v : Bool) : (s.goto l).setCip v = (s.setCip v).goto l := rfl
@[simp] theorem goto_setRawLow (s : State) (l : Seq) (b : Byte) :
    (s.goto l).setRawLow b = (s.setRawLow b).goto l := rfl
@[simp] theorem goto_setRawHigh (s : State) (l : Seq) (b : Byte) :
    (s.goto l).setRawHigh b = (s.setRawHigh b).goto l := rfl
@[simp] theorem goto_latchTemp (s : State) (l : Seq) : (s.goto l).latchTemp = s.latchTemp.goto l := rfl
@[simp] theorem goto_complete (s : State) (l : Seq) (c : Option Instr) (r : Result) (e : Err) :
    (s.goto l).complete c r e = s.complete c r e := rfl
@[simp] theorem goto_raiseError (s : State) (l : Seq) (c : Option Instr) (e : Err) :
    (s.goto l).raiseError c e = s.raiseError c e := rfl
@[simp] theorem goto_failDiscovery (s : State) (l : Seq) : (s.goto l).failDiscovery = s.failDiscovery := rfl

/-! Each command, begun at its first label, is a busy run to the state the command as one step answers. -/

theorem busyRun_begin (s : State) : ∃ n ≤ 3, BusyRun n (s.goto .beginB0) (after .begin s) := by
  rcases begin_cases s with hp | ⟨hp, hf⟩ | ⟨cand, hp, hf, hc⟩ | ⟨cand, hp, hf, hc⟩
  · exact ⟨1, by decide, by simp [BusyRun, microStep, after_begin_absent hp, hp]⟩
  · exact ⟨2, by decide, by simp [BusyRun, microStep, after_begin_exhausted hp hf, hp, hf]⟩
  · exact ⟨3, by decide, by simp [BusyRun, microStep, after_begin_mismatch hp hf hc, hp, hf, hc]⟩
  · exact ⟨3, by decide, by simp [BusyRun, microStep, after_begin_match hp hf hc, hp, hf, hc]⟩

theorem busyRun_start_bound {s : State} (hb : s.bound = true) :
    BusyRun 11 (s.goto .startS0) (after .start s) := by
  simp [BusyRun, microStep, after, startSequence, hb]

theorem busyRun_start_unbound {s : State} (hb : s.bound = false) :
    BusyRun 1 (s.goto .startS0) (after .start s) := by
  simp [BusyRun, microStep, after, hb]

theorem busyRun_read_bound {s : State} (hb : s.bound = true) :
    BusyRun 7 (s.goto .readD0) (after .read s) := by
  simp [BusyRun, microStep, after, readSequence, hb]

theorem busyRun_read_unbound {s : State} (hb : s.bound = false) :
    BusyRun 1 (s.goto .readD0) (after .read s) := by
  simp [BusyRun, microStep, after, hb]

theorem after_busyRun (i : Instr) (s : State) : ∃ n ≤ 11, BusyRun n (s.goto (firstLabel i)) (after i s) := by
  cases i with
  | begin =>
    obtain ⟨n, hn, h⟩ := busyRun_begin s
    exact ⟨n, by omega, h⟩
  | start =>
    cases hb : s.bound
    · exact ⟨1, by decide, busyRun_start_unbound hb⟩
    · exact ⟨11, le_rfl, busyRun_start_bound hb⟩
  | read =>
    cases hb : s.bound
    · exact ⟨1, by decide, busyRun_read_unbound hb⟩
    · exact ⟨7, by decide, busyRun_read_bound hb⟩
  | setp | rdy | getTemp | getRaw | getAddr | isReading => exact ⟨1, by decide, nofun, rfl⟩

theorem after_inputs (i : Instr) (s : State) : (after i s).inputs = s.inputs := by
  obtain ⟨n, -, h⟩ := after_busyRun i s
  exact h.inputs

/-! There is no loop: each statement brings IDLE nearer. -/

/-- The most labelled statements there are from a label to IDLE (10_state.md R17, R18(c)). -/
def statementsLeft : Seq → Nat
  | .idle => 0
  | .beginB0 => 3 | .beginB1 => 2 | .beginB2 _ => 1
  | .startS0 => 11 | .startS1 => 10 | .startS2 => 9 | .startS3 => 8 | .startS4 => 7 | .startS5 => 6
  | .startS6 => 5 | .startS7 => 4 | .startS8 => 3 | .startS9 => 2 | .startS10 => 1
  | .readD0 => 7 | .readD1 => 6 | .readD2 => 5 | .readD3 => 4 | .readD4 => 3 | .readD5 => 2 | .readD6 => 1
  | .setpP0 _ | .rdyY0 | .getTempG0 | .getRawG0 | .getAddrG0 | .isReadingG0 => 1

theorem statementsLeft_le (l : Seq) : statementsLeft l ≤ 11 := by
  cases l <;> simp [statementsLeft]

theorem statementsLeft_microStep {s : State} (hs : s.seq ≠ .idle) :
    statementsLeft (microStep s).seq < statementsLeft s.seq := by
  unfold microStep
  cases hq : s.seq <;> simp only
  case idle => exact absurd hq hs
  case beginB0 | beginB1 | beginB2 | startS0 | readD0 => split <;> simp [statementsLeft]
  all_goals simp [statementsLeft]

theorem exists_busyRun_to_idle (s : State) : ∃ n t, n ≤ statementsLeft s.seq ∧ BusyRun n s t ∧ t.seq = .idle := by
  by_cases hs : s.seq = .idle
  · exact ⟨0, s, Nat.zero_le _, rfl, hs⟩
  · have hlt := statementsLeft_microStep hs
    obtain ⟨n, t, hn, hrun, ht⟩ := exists_busyRun_to_idle (microStep s)
    exact ⟨n + 1, t, by omega, ⟨hs, hrun⟩, ht⟩
termination_by statementsLeft s.seq

/-- Settles O59: a busy run to IDLE, no longer than the statements its label has left. -/
theorem everyCommandReachesIdle : Obligations.EveryCommandReachesIdle := by
  intro s hs
  obtain ⟨n, t, hn, hrun, ht⟩ := exists_busyRun_to_idle s
  have hpos : n ≠ 0 := by
    rintro rfl
    cases hrun
    exact hs ht
  exact ⟨n, t, by omega, hn.trans (statementsLeft_le _), hrun.coreRun, ht, hrun.inputs⟩

/-! In IDLE the two grains differ only where a command is accepted. -/

theorem fineRun_one (s : State) : fineRun 1 s = fineStep s := by
  cases h : fineStep s <;> simp [fineRun, h]

theorem step_of_take_command {s t : State} {i : Instr} (hs : s.seq = .idle) (ht : take s = .command i t) :
    step s = .next (after i t) := by
  simp [step, hs, ht, exec_eq_after]

theorem fineStep_of_take_command {s t : State} {i : Instr} (hs : s.seq = .idle) (ht : take s = .command i t) :
    fineStep s = .next (t.goto (firstLabel i)) := by
  simp [fineStep, hs, ht]

theorem fineStep_eq_step {s : State} (hs : s.seq = .idle) (h : ∀ i t, take s ≠ .command i t) :
    fineStep s = step s := by
  unfold fineStep step
  rw [hs]
  cases ht : take s with
  | command i t => exact absurd ht (h i t)
  | nothing | reset | cutByReset | illegal => rfl

/-- Settles O58: an accepted command is its busy run after the acceptance; any other step is one fine step. -/
theorem stepIsTheRunOfItsMicroSteps : Obligations.StepIsTheRunOfItsMicroSteps := by
  intro s hs
  by_cases hc : ∃ i t, take s = .command i t
  · obtain ⟨i, t, ht⟩ := hc
    obtain ⟨n, hn, hrun⟩ := after_busyRun i t
    have hfine (k : Nat) : fineRun (k + 1) s = fineRun k (t.goto (firstLabel i)) := by
      simp only [fineRun, fineStep_of_take_command hs ht]
    refine ⟨n + 1, by omega, by omega, ?_, fun k hpos hk => ?_⟩
    · rw [hfine, hrun.fineRun, step_of_take_command hs ht]
    · obtain ⟨k, rfl⟩ := Nat.exists_eq_add_of_lt hpos
      rw [Nat.zero_add, hfine]
      exact hrun.busy_before (by omega)
  · push Not at hc
    exact ⟨1, le_rfl, by decide, (fineRun_one s).trans (fineStep_eq_step hs hc), by omega⟩

end Sys2Proof.Machine

namespace Sys2Proof.Safety

open Sys2Proof.Machine

/-! The invariant, one rule per kind of statement. It speaks of the registers, SEQ and the outcomes recorded, so a bus
call, a draw or an input taken keeps it. -/

theorem Inv.of_same {s t : State} (h : Inv s) (hr : t.registers = s.registers) (hk : t.rawKnown = s.rawKnown)
    (hq : t.seq = s.seq) (hh : t.history = s.history) : Inv t := by
  simp only [State.registers, Registers.mk.injEq] at hr
  obtain ⟨ha, hb, hres, hraw, htemp, hcip⟩ := hr
  obtain ⟨h₁, h₂, h₃, h₄, h₅, h₆, h₇, h₈⟩ := h
  constructor <;> simp only [ha, hb, hres, hraw, htemp, hcip, hk, hq, hh] <;> assumption

theorem Inv.bound_of_pastBoundCheck {s : State} (h : Inv s) {l : Seq} (hq : s.seq = l)
    (hl : pastBoundCheck l = true) : s.bound = true :=
  h.boundPastCheck (hq ▸ hl)

theorem Inv.cip_eq {s : State} (h : Inv s) {l : Seq} (hq : s.seq = l) (hl : pastCipClear l = false) :
    s.cip = cipAfter s.history := by
  rw [h.cipIsRecorded, hq, hl, Bool.not_false, Bool.true_and]

theorem Inv.cip_eq_false {s : State} (h : Inv s) {l : Seq} (hq : s.seq = l) (hl : pastCipClear l = true) :
    s.cip = false := by
  rw [h.cipIsRecorded, hq, hl, Bool.not_true, Bool.false_and]

theorem Inv.temp_eq {s : State} (h : Inv s) {l : Seq} (hq : s.seq = l) (hl : l ≠ .readD6)
    (hk : s.rawKnown = true) : s.temp = s.raw.high ++ s.raw.low :=
  h.tempIsRaw hk (hq ▸ hl)

/-- SEQ moves to a label of the same standing: past the check of BOUND only when bound, with RAW whole. -/
theorem Inv.goto {s : State} {l l' : Seq} (h : Inv s) (hq : s.seq = l) (hb : pastBoundCheck l' = true → s.bound = true)
    (hl : l ≠ .readD6) (hc : pastCipClear l' = pastCipClear l) : Inv (s.goto l') where
  addressPassesCrc := h.addressPassesCrc
  boundIsRecorded := h.boundIsRecorded
  boundPastCheck := hb
  rawKnownIsRecorded := h.rawKnownIsRecorded
  tempIsRaw hk _ := h.temp_eq hq hl hk
  tempBeforeRead := h.tempBeforeRead
  resolutionIsRecorded := h.resolutionIsRecorded
  cipIsRecorded := by simpa [hc, hq] using h.cipIsRecorded

/-- A statement that writes no register, then the move to its next label. -/
theorem Inv.advance {s t : State} {l l' : Seq} (h : Inv s) (hq : s.seq = l)
    (hb : pastBoundCheck l' = true → s.bound = true) (hl : l ≠ .readD6 := by exact nofun)
    (hc : pastCipClear l' = pastCipClear l := by rfl) (hr : t.registers = s.registers := by rfl)
    (hk : t.rawKnown = s.rawKnown := by rfl) (hh : t.history = s.history := by rfl) : Inv (t.goto l') :=
  (h.goto hq hb hl hc).of_same hr hk rfl hh

/-- One more outcome recorded in IDLE: the registers have moved as the record says. -/
theorem Inv.record {s t : State} {r : Record} (h : Inv s) (hh : t.history = s.history ++ [r])
    (haddr : t.bound = true → t.address[7] = crcOf t.address)
    (htemp : t.rawKnown = true → t.temp = t.raw.high ++ t.raw.low) (htemp₀ : t.rawKnown = false → t.temp = 0)
    (hcip : t.cip = noteCip (cipAfter s.history) r) (hq : t.seq = .idle := by rfl)
    (hb : t.bound = noteBound s.bound r := by rfl)
    (hk : t.rawKnown = noteRead s.rawKnown r := by rfl)
    (hres : t.resolution = noteResolution s.resolution r := by rfl) : Inv t where
  addressPassesCrc := haddr
  boundIsRecorded := by rw [hb, hh, boundAfter_append, h.boundIsRecorded]
  boundPastCheck := by rw [hq]; nofun
  rawKnownIsRecorded := by rw [hk, hh, readCompleted_append, h.rawKnownIsRecorded]
  tempIsRaw hk _ := htemp hk
  tempBeforeRead := htemp₀
  resolutionIsRecorded := by rw [hres, hh, resolutionAfter_append, h.resolutionIsRecorded]
  cipIsRecorded := by rw [hcip, hh, hq, cipAfter_append]; rfl

/-- READ's D1: CIP is cleared ahead of the record that says so. -/
theorem Inv.clearCip {s : State} (h : Inv s) (hq : s.seq = .readD1) : Inv ((s.setCip false).goto .readD2) where
  addressPassesCrc := h.addressPassesCrc
  boundIsRecorded := h.boundIsRecorded
  boundPastCheck _ := h.bound_of_pastBoundCheck hq rfl
  rawKnownIsRecorded := h.rawKnownIsRecorded
  tempIsRaw hk _ := h.temp_eq hq nofun hk
  tempBeforeRead := h.tempBeforeRead
  resolutionIsRecorded := h.resolutionIsRecorded
  cipIsRecorded := rfl

/-- READ's D5: RAW is half overwritten, which the label D6 answers for. -/
theorem Inv.setRawLow {s : State} (h : Inv s) (hq : s.seq = .readD5) (b : Byte) :
    Inv ((s.setRawLow b).goto .readD6) where
  addressPassesCrc := h.addressPassesCrc
  boundIsRecorded := h.boundIsRecorded
  boundPastCheck _ := h.bound_of_pastBoundCheck hq rfl
  rawKnownIsRecorded := h.rawKnownIsRecorded
  tempIsRaw _ hl := absurd rfl hl
  tempBeforeRead := h.tempBeforeRead
  resolutionIsRecorded := h.resolutionIsRecorded
  cipIsRecorded := h.cip_eq_false hq rfl

/-- Every labelled statement keeps the invariant. -/
theorem Inv.microStep {s : State} (h : Inv s) : Inv (microStep s) := by
  unfold Machine.microStep
  cases hq : s.seq with simp only
  | idle => exact h
  | beginB0 =>
    split
    · exact h.advance hq nofun
    · exact h.record rfl nofun (h.temp_eq hq nofun) h.tempBeforeRead (h.cip_eq hq rfl)
  | beginB1 =>
    split
    · exact h.record rfl nofun (h.temp_eq hq nofun) h.tempBeforeRead (h.cip_eq hq rfl)
    · exact h.advance hq nofun
  | beginB2 cand =>
    split
    · rename_i hcrc
      exact h.record rfl (fun _ => hcrc.symm) (h.temp_eq hq nofun) h.tempBeforeRead (h.cip_eq hq rfl)
    · exact h.record rfl nofun (h.temp_eq hq nofun) h.tempBeforeRead (h.cip_eq hq rfl)
  | startS0 | readD0 =>
    split
    · rename_i hb
      exact h.advance hq fun _ => hb
    · exact h.record rfl h.addressPassesCrc (h.temp_eq hq nofun) h.tempBeforeRead (h.cip_eq hq rfl)
  | startS1 | startS2 | startS3 | startS4 | startS5 | startS6 | startS7 | startS8 | startS9
  | readD2 | readD3 | readD4 =>
    exact h.advance hq fun _ => h.bound_of_pastBoundCheck hq rfl
  | startS10 => exact h.record rfl h.addressPassesCrc (h.temp_eq hq nofun) h.tempBeforeRead rfl
  | readD1 => exact h.clearCip hq
  | readD5 => exact Inv.setRawLow (s := s.busRead) (h.of_same rfl rfl rfl rfl) hq _
  | readD6 => exact h.record rfl h.addressPassesCrc (fun _ => rfl) nofun (h.cip_eq_false hq rfl)
  | setpP0 | rdyY0 | getTempG0 | getRawG0 | getAddrG0 | isReadingG0 =>
    exact h.record rfl h.addressPassesCrc (h.temp_eq hq nofun) h.tempBeforeRead (h.cip_eq hq rfl)

theorem pastBoundCheck_firstLabel (i : Instr) : pastBoundCheck (firstLabel i) = false := by cases i <;> rfl

theorem pastCipClear_firstLabel (i : Instr) : pastCipClear (firstLabel i) = false := by cases i <;> rfl

/-- A whole command keeps the invariant, for it is a run of labelled statements. -/
theorem Inv.after {s : State} (h : Inv s) (hs : s.seq = .idle) (i : Instr) : Inv (after i s) := by
  have hfirst : Inv (s.goto (firstLabel i)) :=
    h.goto hs (by simp [pastBoundCheck_firstLabel]) nofun (pastCipClear_firstLabel i)
  obtain ⟨n, -, hrun⟩ := after_busyRun i s
  exact hrun.keeps (P := Inv) (fun _ => Inv.microStep) hfirst

theorem Inv.pulseReset {s : State} (h : Inv s) : Inv s.pulseReset :=
  h.record rfl nofun nofun (fun _ => rfl) rfl

theorem Inv.illegalWord {s : State} (h : Inv s) (hs : s.seq = .idle) : Inv (illegalWord s) :=
  h.record rfl h.addressPassesCrc (h.temp_eq hs nofun) h.tempBeforeRead (h.cip_eq hs rfl)

theorem Inv.step {s t : State} (h : Inv s) (hstep : step s = .next t) : Inv t := by
  have hrest (rest : List HostInput) : Inv { s with inputs := rest } := h.of_same rfl rfl rfl rfl
  rcases step_cases hstep with ⟨-, -, rfl⟩ | ⟨rest, -, -, rfl⟩ | ⟨-, rest, -, hs, -, -, rfl⟩ |
    ⟨-, rest, i, hs, -, -, rfl⟩ | ⟨-, rfl⟩
  · exact h
  · exact (hrest rest).pulseReset
  · exact (hrest rest).illegalWord hs
  · exact (hrest rest).after hs i
  · exact h.microStep

/-- Settles O56: a whole command is the run of its labelled statements, and each of them keeps the invariant. -/
theorem everyStepKeepsTheInvariant : Obligations.EveryStepKeepsTheInvariant :=
  fun _ _ h hstep => h.step hstep

theorem inv_reset : Inv State.reset where
  addressPassesCrc := nofun
  boundIsRecorded := rfl
  boundPastCheck := nofun
  rawKnownIsRecorded := rfl
  tempIsRaw := nofun
  tempBeforeRead _ := rfl
  resolutionIsRecorded := rfl
  cipIsRecorded := rfl

/-- Settles O55: nothing is recorded and the registers hold what an empty record stands for. -/
theorem resetMeetsTheInvariant : Obligations.ResetMeetsTheInvariant := inv_reset

/-- A run from IDLE keeps the invariant and ends in IDLE, whatever it is given. -/
theorem Inv.coreRun {n : Nat} {s t : State} (h : Inv s) (hs : s.seq = .idle)
    (hrun : Host.Core.run Sys2Proof.core n s = .next t) : Inv t ∧ t.seq = .idle := by
  induction n generalizing s with
  | zero => cases hrun; exact ⟨h, hs⟩
  | succ n ih =>
    obtain ⟨u, hstep, hrun⟩ := (coreRun_succ n s t).1 hrun
    exact ih (h.step hstep) (step_seq hs hstep) hrun

/-- Settles O57: the invariant, carried from reset along the run and read in IDLE. -/
theorem everyRunFromResetKeepsTheFourInvariants : Obligations.EveryRunFromResetKeepsTheFourInvariants := by
  intro inputs presences bytes finds n t hrun
  have hstart : Inv { State.reset with inputs := inputs, presences := presences, bytes := bytes, finds := finds } :=
    inv_reset.of_same rfl rfl rfl rfl
  obtain ⟨h, ht⟩ := hstart.coreRun rfl hrun
  have hread := h.rawKnownIsRecorded
  exact ⟨ht, h.addressPassesCrc, fun hr => h.temp_eq ht nofun (hread.trans hr),
    fun hr => h.tempBeforeRead (hread.trans hr), h.resolutionIsRecorded, h.cip_eq ht rfl⟩

end Sys2Proof.Safety

namespace Sys2Proof.Machine

/-- Settles O9: the step that takes a word answers what its command answers. -/
theorem stepRunsTheDecodedCommand : Obligations.StepRunsTheDecodedCommand := by
  intro s w rest i hs hw hd
  rw [step_of_command hs hw hd, exec_eq_after]

/-! START and READ by BOUND, and the frame of each register: who writes it, and what everybody else leaves. -/

theorem after_start_bound {s : State} (hb : s.bound = true) : after .start s = startSequence s := if_pos hb

theorem after_start_unbound {s : State} (hb : s.bound = false) :
    after .start s = s.raiseError (some .start) .notInitialized := by simp [after, hb]

theorem after_read_bound {s : State} (hb : s.bound = true) : after .read s = readSequence s := if_pos hb

theorem after_read_unbound {s : State} (hb : s.bound = false) :
    after .read s = s.raiseError (some .read) .notInitialized := by simp [after, hb]

/-- BEGIN writes ADDRESS and BOUND and no other register. -/
theorem after_begin_frame (s : State) :
    (after .begin s).resolution = s.resolution ∧ (after .begin s).raw = s.raw ∧ (after .begin s).temp = s.temp ∧
      (after .begin s).rawKnown = s.rawKnown ∧ (after .begin s).cip = s.cip := by
  rcases after_begin_cases s with h | h | ⟨_, h⟩ | ⟨_, _, h⟩ <;> rw [h] <;> exact ⟨rfl, rfl, rfl, rfl, rfl⟩

/-- START writes CIP alone, and only when bound. -/
theorem after_start_frame (s : State) :
    (after .start s).registers = { s.registers with cip := s.bound || s.cip } ∧
      (after .start s).rawKnown = s.rawKnown := by
  cases hb : s.bound
  · rw [after_start_unbound hb]; exact ⟨rfl, rfl⟩
  · rw [after_start_bound hb, startSequence_spec]; exact ⟨rfl, rfl⟩

/-- READ writes RAW, TEMP and CIP, and only when bound. -/
theorem after_read_frame (s : State) :
    (after .read s).address = s.address ∧ (after .read s).bound = s.bound ∧
      (after .read s).resolution = s.resolution ∧ (after .read s).cip = (!s.bound && s.cip) := by
  cases hb : s.bound
  · rw [after_read_unbound hb]; exact ⟨rfl, hb, rfl, rfl⟩
  · rw [after_read_bound hb, readSequence_spec]; exact ⟨rfl, hb, rfl, rfl⟩

theorem after_address_bound {i : Instr} (hi : i ≠ .begin) (s : State) :
    (after i s).address = s.address ∧ (after i s).bound = s.bound := by
  cases i with
  | begin => exact absurd rfl hi
  | start =>
    obtain ⟨hr, -⟩ := after_start_frame s
    exact ⟨congrArg Registers.address hr, congrArg Registers.bound hr⟩
  | read =>
    obtain ⟨ha, hb, -⟩ := after_read_frame s
    exact ⟨ha, hb⟩
  | setp | rdy | getTemp | getRaw | getAddr | isReading => exact ⟨rfl, rfl⟩

theorem after_resolution {i : Instr} (hi : ∀ x, i ≠ .setp x) (s : State) :
    (after i s).resolution = s.resolution := by
  cases i with
  | setp x => exact absurd rfl (hi x)
  | begin => exact (after_begin_frame s).1
  | start => exact congrArg Registers.resolution (after_start_frame s).1
  | read =>
    obtain ⟨-, -, hres, -⟩ := after_read_frame s
    exact hres
  | rdy | getTemp | getRaw | getAddr | isReading => rfl

theorem after_raw_temp {i : Instr} (hi : i ≠ .read) (s : State) :
    (after i s).raw = s.raw ∧ (after i s).temp = s.temp ∧ (after i s).rawKnown = s.rawKnown := by
  cases i with
  | read => exact absurd rfl hi
  | begin =>
    obtain ⟨-, hraw, htemp, hk, -⟩ := after_begin_frame s
    exact ⟨hraw, htemp, hk⟩
  | start =>
    obtain ⟨hr, hk⟩ := after_start_frame s
    exact ⟨congrArg Registers.raw hr, congrArg Registers.temp hr, hk⟩
  | setp | rdy | getTemp | getRaw | getAddr | isReading => exact ⟨rfl, rfl, rfl⟩

theorem after_cip {i : Instr} (hs : i ≠ .start) (hr : i ≠ .read) (s : State) : (after i s).cip = s.cip := by
  cases i with
  | start => exact absurd rfl hs
  | read => exact absurd rfl hr
  | begin =>
    obtain ⟨-, -, -, -, hcip⟩ := after_begin_frame s
    exact hcip
  | setp | rdy | getTemp | getRaw | getAddr | isReading => rfl

theorem after_start_cip (s : State) : (after .start s).cip = (s.bound || s.cip) :=
  congrArg Registers.cip (after_start_frame s).1

theorem after_read_cip (s : State) : (after .read s).cip = (!s.bound && s.cip) := by
  obtain ⟨-, -, -, hcip⟩ := after_read_frame s
  exact hcip

/-- SETP and the accessors make no bus call. -/
theorem after_trace {i : Instr} (hb : i ≠ .begin) (hs : i ≠ .start) (hy : i ≠ .rdy) (hr : i ≠ .read) (s : State) :
    (after i s).trace = s.trace := by
  cases i with
  | begin => exact absurd rfl hb
  | start => exact absurd rfl hs
  | rdy => exact absurd rfl hy
  | read => exact absurd rfl hr
  | setp | getTemp | getRaw | getAddr | isReading => rfl

/-- Settles O34: one frame lemma per register. -/
theorem commandsWriteOnlyWhatTheMatrixAllows : Obligations.CommandsWriteOnlyWhatTheMatrixAllows := by
  intro i s t h
  rw [exec_eq_after] at h
  cases h
  refine ⟨(after_address_bound · s), (after_resolution · s), (after_raw_temp · s), (after_cip · · s), ?_, ?_,
    (after_trace · · · · s)⟩
  · rintro rfl
    exact after_start_cip s
  · rintro rfl
    exact after_read_cip s

/-! MODE (10_state.md R19), and BEGIN's outcome. -/

theorem mode_unbound {s : State} (hb : s.bound = false) : s.mode = .uninit := by simp [State.mode, hb]

theorem mode_bound {s : State} (hb : s.bound = true) : s.mode = if s.cip then .converting else .idleMode := by
  cases hc : s.cip <;> simp [State.mode, hb, hc]

theorem mode_of_same {s t : State} (hb : t.bound = s.bound) (hc : t.cip = s.cip) : t.mode = s.mode := by
  simp only [State.mode, hb, hc]

/-- Settles O35: MODE by BOUND, then by CIP. -/
theorem modeIsAFunctionOfBoundAndCip : Obligations.ModeIsAFunctionOfBoundAndCip :=
  fun _ => ⟨mode_unbound, fun hb hc => by rw [mode_bound hb, hc]; rfl, fun hb hc => by rw [mode_bound hb, hc]; rfl⟩

/-- BEGIN ends bound exactly when it answers RESULT 1 and E_OK. -/
theorem after_begin_bound_iff (s : State) :
    (after .begin s).bound = true ↔
      (after .begin s).history = s.history ++ [.completed (some .begin) 1 .ok] := by
  rcases after_begin_cases s with h | h | ⟨_, h⟩ | ⟨_, _, h⟩ <;> rw [h] <;> simp

/-- Settles O36: the mode after a command, from what the command does to BOUND and CIP. -/
theorem modeTransitionsAreTheTable : Obligations.ModeTransitionsAreTheTable := by
  intro i s
  refine ⟨after i s, exec_eq_after i s, ?_, ?_, ?_, ?_, ?_, ?_⟩
  · rintro rfl hb
    rw [mode_bound hb, after_cip (i := .begin) nofun nofun]
  · rintro rfl hb
    exact ⟨mode_unbound hb, after_cip (i := .begin) nofun nofun s⟩
  · rintro rfl
    exact after_begin_bound_iff s
  · rintro rfl
    obtain ⟨-, hb⟩ := after_address_bound (i := .start) nofun s
    cases hs : s.bound
    · exact mode_unbound (hb.trans hs)
    · rw [mode_bound (hb.trans hs), after_start_cip, hs]; rfl
  · rintro rfl
    obtain ⟨-, hb⟩ := after_address_bound (i := .read) nofun s
    cases hs : s.bound
    · exact mode_unbound (hb.trans hs)
    · rw [mode_bound (hb.trans hs), after_read_cip, hs]; rfl
  · intro hbegin hstart hread
    exact mode_of_same (after_address_bound hbegin s).2 (after_cip hstart hread s)

/-! The outcome a command records. -/

/-- An outcome other than E_OK has RESULT 0 and is BEGIN's E_NO_DEVICE or E_NOT_INITIALIZED. -/
theorem after_outcome {i : Instr} {s : State} {result : Result} {err : Err}
    (h : (after i s).history = s.history ++ [.completed (some i) result err]) :
    err = .ok ∨ result = 0 ∧ (err = .noDevice ∧ i = .begin ∨ err = .notInitialized) := by
  cases i with
  | begin =>
    rcases after_begin_cases s with he | he | ⟨_, he⟩ | ⟨_, _, he⟩
    all_goals
      simp [he] at h
      simp [h]
  | start =>
    cases hb : s.bound
    · simp [after_start_unbound hb] at h; simp [h]
    · simp [after_start_bound hb, startSequence_spec] at h; simp [h]
  | read =>
    cases hb : s.bound
    · simp [after_read_unbound hb] at h; simp [h]
    · simp [after_read_bound hb, readSequence_spec] at h; simp [h]
  | setp | rdy | getTemp | getRaw | getAddr | isReading => simp [after] at h; simp [h]

/-- Settles O33: the one record a command adds, and the outcomes it can hold. -/
theorem everyCommandEndsWithOneResultAndOneErr : Obligations.EveryCommandEndsWithOneResultAndOneErr := by
  intro i s
  obtain ⟨result, err, hh, hne, hinit⟩ := after_history i s
  refine ⟨after i s, result, err, exec_eq_after i s, after_seq i s, after_inputs i s, hh, ?_, ?_, hinit, ?_, hne⟩
  all_goals rcases after_outcome hh with rfl | ⟨rfl, ⟨rfl, rfl⟩ | rfl⟩ <;> simp

end Sys2Proof.Machine

namespace Sys2Proof.Machine

/-! Which addresses go out on the bus (20_memory.md R31). -/

/-- A whole command selects ADDRESS alone, and only when bound. -/
theorem after_selects {i : Instr} {s : State} {events : List BusEvent} {a : Address}
    (h : (after i s).trace = s.trace ++ events) (ha : .select a ∈ events) : a = s.address ∧ s.bound = true := by
  cases i with
  | begin =>
    rcases after_begin_cases s with he | he | ⟨_, he⟩ | ⟨_, _, he⟩
    all_goals
      simp [he] at h
      subst h
      simp at ha
  | start =>
    cases hb : s.bound
    · simp [after_start_unbound hb] at h
      simp [h] at ha
    · simp [after_start_bound hb, startSequence_spec] at h
      subst h
      simpa using ha
  | read =>
    cases hb : s.bound
    · simp [after_read_unbound hb] at h
      simp [h] at ha
    · simp [after_read_bound hb, readSequence_spec] at h
      subst h
      simpa using ha
  | setp | rdy | getTemp | getRaw | getAddr | isReading =>
    simp [after] at h
    subst h
    simp at ha

/-- A labelled statement selects ADDRESS alone, and only past the check of BOUND. -/
theorem microStep_selects {s : State} {events : List BusEvent} {a : Address}
    (h : (microStep s).trace = s.trace ++ events) (ha : .select a ∈ events) :
    a = s.address ∧ Safety.pastBoundCheck s.seq = true := by
  unfold microStep at h
  cases hq : s.seq <;> simp only [hq] at h
  case startS2 | startS9 | readD3 =>
    simp at h
    subst h
    simpa [Safety.pastBoundCheck] using ha
  case beginB0 | beginB1 | beginB2 | startS0 | readD0 =>
    split at h
    all_goals
      simp at h
      subst h
      simp at ha
  all_goals
    simp at h
    subst h
    simp at ha

end Sys2Proof.Machine

namespace Sys2Proof.Safety

open Sys2Proof.Machine

theorem step_selects {s t : State} {events : List BusEvent} {a : Address} (h : Inv s)
    (hstep : step s = .next t) (ht : t.trace = s.trace ++ events) (ha : .select a ∈ events) :
    a = s.address ∧ s.bound = true := by
  have hsome : events ≠ [] := List.ne_nil_of_mem ha
  rcases step_cases hstep with ⟨-, -, rfl⟩ | ⟨rest, -, -, rfl⟩ | ⟨-, rest, -, hs, -, -, rfl⟩ |
    ⟨-, rest, i, hs, -, -, rfl⟩ | ⟨-, rfl⟩
  · exact absurd (by simpa using ht) hsome
  · exact absurd (by simpa using ht) hsome
  · exact absurd (by simpa [illegalWord] using ht) hsome
  · exact after_selects (s := { s with inputs := rest }) ht ha
  · obtain ⟨haddr, hpast⟩ := microStep_selects ht ha
    exact ⟨haddr, h.boundPastCheck hpast⟩

/-- Settles O41: what a step selects is ADDRESS when bound, and the invariant has its CRC. -/
theorem onlyABoundAddressIsSelected : Obligations.OnlyABoundAddressIsSelected := by
  intro s t events a h hstep ht ha
  obtain ⟨rfl, hb⟩ := step_selects h hstep ht ha
  exact ⟨rfl, hb, h.addressPassesCrc hb⟩

end Sys2Proof.Safety

namespace Sys2Proof.Machine

/-! What a command does to a state in which one register is overwritten. -/

theorem after_begin_overwrite (s : State) (a : Address) (b : Bool) (r : Byte) (p : RawPayload) (v : Q4) :
    after .begin { s with address := a, bound := b, resolution := r, raw := p, temp := v } =
      { after .begin s with resolution := r, raw := p, temp := v } := by
  rcases begin_cases s with hp | ⟨hp, hf⟩ | ⟨cand, hp, hf, hc⟩ | ⟨cand, hp, hf, hc⟩
  · rw [after_begin_absent hp, after_begin_absent (by exact hp)]; rfl
  · rw [after_begin_exhausted hp hf, after_begin_exhausted (by exact hp) (by exact hf)]; rfl
  · rw [after_begin_mismatch hp hf hc, after_begin_mismatch (by exact hp) (by exact hf) hc]; rfl
  · rw [after_begin_match hp hf hc, after_begin_match (by exact hp) (by exact hf) hc]; rfl

theorem after_overwrite_resolution {i : Instr} (hstart : i ≠ .start) (hsetp : ∀ x, i ≠ .setp x) (s : State)
    (r : Byte) : after i { s with resolution := r } = { after i s with resolution := r } := by
  cases i with
  | start => exact absurd rfl hstart
  | setp x => exact absurd rfl (hsetp x)
  | begin =>
    obtain ⟨-, hraw, htemp, -⟩ := after_begin_frame s
    simpa only [← hraw, ← htemp] using after_begin_overwrite s s.address s.bound r s.raw s.temp
  | read => simp only [after]; split <;> rfl
  | rdy | getTemp | getRaw | getAddr | isReading => rfl

theorem after_begin_overwrite_address (s : State) (a : Address) :
    after .begin { s with address := a } = after .begin s := by
  obtain ⟨hres, hraw, htemp, -⟩ := after_begin_frame s
  simpa only [← hres, ← hraw, ← htemp] using after_begin_overwrite s a s.bound s.resolution s.raw s.temp

theorem after_begin_overwrite_bound (s : State) (b : Bool) :
    after .begin { s with bound := b } = after .begin s := by
  obtain ⟨hres, hraw, htemp, -⟩ := after_begin_frame s
  simpa only [← hres, ← hraw, ← htemp] using after_begin_overwrite s s.address b s.resolution s.raw s.temp

/-- While bound, ADDRESS is seen by START, READ and GETADDR; unbound, by no command. -/
theorem after_overwrite_address {i : Instr} {s : State} (hbegin : i ≠ .begin)
    (h : s.bound = false ∨ i ≠ .start ∧ i ≠ .read ∧ i ≠ .getAddr) (a : Address) :
    after i { s with address := a } = { after i s with address := a } := by
  cases i with
  | begin => exact absurd rfl hbegin
  | start | read | getAddr =>
    have hb : s.bound = false := by simpa using h
    simp [after, hb, State.addressSeen]
    rfl
  | setp | rdy | getTemp | getRaw | isReading => rfl

theorem after_overwrite_raw {i : Instr} {s : State} (hread : i ≠ .read) (h : s.rawKnown = false ∨ i ≠ .getRaw)
    (r : RawPayload) : after i { s with raw := r } = { after i s with raw := r } := by
  cases i with
  | read => exact absurd rfl hread
  | begin =>
    obtain ⟨hres, -, htemp, -⟩ := after_begin_frame s
    simpa only [← hres, ← htemp] using after_begin_overwrite s s.address s.bound s.resolution r s.temp
  | start => simp only [after]; split <;> rfl
  | getRaw =>
    have hk : s.rawKnown = false := by simpa using h
    simp [after, hk, State.rawSeen]
    rfl
  | setp | rdy | getTemp | getAddr | isReading => rfl

theorem after_overwrite_temp {i : Instr} (hread : i ≠ .read) (htemp : i ≠ .getTemp) (s : State) (v : Q4) :
    after i { s with temp := v } = { after i s with temp := v } := by
  cases i with
  | read => exact absurd rfl hread
  | getTemp => exact absurd rfl htemp
  | begin =>
    obtain ⟨hres, hraw, -⟩ := after_begin_frame s
    simpa only [← hres, ← hraw] using after_begin_overwrite s s.address s.bound s.resolution s.raw v
  | start => simp only [after]; split <;> rfl
  | setp | rdy | getRaw | getAddr | isReading => rfl

/-- A bound READ overwrites RAW and TEMP whatever they held; an unbound one leaves them. -/
theorem after_read_overwrite_raw (s : State) (r : RawPayload) :
    after .read { s with raw := r } = if s.bound then after .read s else { after .read s with raw := r } := by
  simp only [after]; split <;> rfl

theorem after_read_overwrite_temp (s : State) (v : Q4) :
    after .read { s with temp := v } = if s.bound then after .read s else { after .read s with temp := v } := by
  simp only [after]; split <;> rfl

/-- Settles O43: one lemma per register read by some command, and per register BEGIN and READ overwrite unread. -/
theorem commandsReadOnlyWhatTheMatrixAllows : Obligations.CommandsReadOnlyWhatTheMatrixAllows := by
  intro i s t h
  rw [exec_eq_after] at h
  cases h
  simp only [exec_eq_after, Host.Outcome.next.injEq]
  refine ⟨fun r hs hp => after_overwrite_resolution hs hp s r, ?_,
    fun a hb hs hr hg => after_overwrite_address hb (.inr ⟨hs, hr, hg⟩) a, ?_, ?_, ?_,
    fun r hr hg => after_overwrite_raw hr (.inr hg) r, ?_, fun v hr hg => after_overwrite_temp hr hg s v, ?_⟩
  · rintro r x rfl
    rfl
  · rintro a rfl
    exact after_begin_overwrite_address s a
  · intro b hb hs hr hg
    cases i with
    | begin | start | read | getAddr => contradiction
    | setp | rdy | getTemp | getRaw | isReading => rfl
  · rintro b rfl
    exact after_begin_overwrite_bound s b
  · rintro r rfl
    exact after_read_overwrite_raw s r
  · rintro v rfl
    exact after_read_overwrite_temp s v

/-- Settles O45: an unspecified register is read as a draw, so what it holds stays where it is. -/
theorem unspecifiedRegistersNeverShow : Obligations.UnspecifiedRegistersNeverShow := by
  intro i s t a r h
  rw [exec_eq_after] at h
  cases h
  simp only [exec_eq_after, Host.Outcome.next.injEq]
  refine ⟨fun hb hi => after_overwrite_address hi (.inl hb) a, ?_, fun hk hi => after_overwrite_raw hi (.inl hk) r, ?_⟩
  · rintro rfl
    exact after_begin_overwrite_address s a
  · rintro rfl hb
    rw [after_read_overwrite_raw, if_pos hb]

end Sys2Proof.Machine

namespace Sys2Proof.Machine

/-! The two records only grow at their end (20_memory.md R39, R41). -/

/-- No call and no outcome recorded in `s` is dropped, reordered or merged in `t`. -/
def RecordsExtend (s t : State) : Prop := s.trace <+: t.trace ∧ s.history <+: t.history

theorem RecordsExtend.refl (s : State) : RecordsExtend s s := ⟨List.prefix_rfl, List.prefix_rfl⟩

theorem RecordsExtend.trans {s t u : State} (hst : RecordsExtend s t) (htu : RecordsExtend t u) : RecordsExtend s u :=
  ⟨hst.1.trans htu.1, hst.2.trans htu.2⟩

/-- A labelled statement makes at most one bus call, recorded after all others. -/
theorem microStep_trace (s : State) :
    (microStep s).trace = s.trace ∨ ∃ event, (microStep s).trace = s.trace ++ [event] := by
  unfold microStep
  cases s.seq with simp only
  | idle => exact .inl trivial
  | setpP0 | readD1 | getTempG0 | getRawG0 | getAddrG0 | isReadingG0 => exact .inl rfl
  | startS0 | readD0 => split <;> exact .inl rfl
  | beginB0 | beginB1 | beginB2 => split <;> exact .inr ⟨_, rfl⟩
  | startS1 | startS2 | startS3 | startS4 | startS5 | startS6 | startS7 | startS8 | startS9 | startS10
  | rdyY0 | readD2 | readD3 | readD4 | readD5 | readD6 => exact .inr ⟨_, rfl⟩

theorem recordsExtend_microStep (s : State) : RecordsExtend s (microStep s) := by
  constructor
  · rcases microStep_trace s with h | ⟨event, h⟩ <;> simp [h]
  · rcases microStep_history s with ⟨h, -⟩ | ⟨cmd, result, err, h, -⟩ <;> simp [h]

/-- A whole command extends the records, for it is a run of labelled statements. -/
theorem recordsExtend_after (i : Instr) (s : State) : RecordsExtend s (after i s) := by
  obtain ⟨n, -, hrun⟩ := after_busyRun i s
  have hfirst : RecordsExtend s (s.goto (firstLabel i)) := .refl s
  exact hrun.keeps (P := RecordsExtend s) (fun u hu => hu.trans (recordsExtend_microStep u)) hfirst

theorem recordsExtend_pulseReset (s : State) : RecordsExtend s s.pulseReset := ⟨List.prefix_rfl, List.prefix_append ..⟩

theorem recordsExtend_illegalWord (s : State) : RecordsExtend s (illegalWord s) :=
  ⟨List.prefix_rfl, List.prefix_append ..⟩

/-- Settles O39: each thing a step can do extends both records. -/
theorem stepsOnlyAppendToTheRecord : Obligations.StepsOnlyAppendToTheRecord := by
  intro s t hstep
  change RecordsExtend s t
  rcases step_cases hstep with ⟨-, -, rfl⟩ | ⟨rest, -, -, rfl⟩ | ⟨-, rest, -, -, -, -, rfl⟩ |
    ⟨-, rest, i, -, -, -, rfl⟩ | ⟨-, rfl⟩
  · exact .refl _
  · exact recordsExtend_pulseReset { s with inputs := rest }
  · exact recordsExtend_illegalWord { s with inputs := rest }
  · exact recordsExtend_after i { s with inputs := rest }
  · exact recordsExtend_microStep s

end Sys2Proof.Machine

namespace Sys2Proof

/-! A command word is its opcode above its operand byte (30_encoding.md R50). -/

@[simp] theorem opcodeOf_wordOf (op : BitVec 4) (imm8 : Byte) : opcodeOf (wordOf op imm8) = op :=
  BitVec.extractLsb'_append_eq_left

@[simp] theorem imm8Of_wordOf (op : BitVec 4) (imm8 : Byte) : imm8Of (wordOf op imm8) = imm8 :=
  BitVec.extractLsb'_append_eq_right

theorem wordOf_opcodeOf_imm8Of (w : Command) : wordOf (opcodeOf w) (imm8Of w) = w :=
  BitVec.extractLsb'_append_extractLsb'

theorem toNat_wordOf (op : BitVec 4) (imm8 : Byte) : (wordOf op imm8).toNat = op.toNat * 256 + imm8.toNat := by
  rw [wordOf, BitVec.toNat_append, ← Nat.shiftLeft_add_eq_or_of_lt imm8.isLt, Nat.shiftLeft_eq]

theorem toNat_opcodeOf (w : Command) : (opcodeOf w).toNat = w.toNat / 256 := by
  have hw : w.toNat = (opcodeOf w).toNat * 256 + (imm8Of w).toNat := by
    rw [← toNat_wordOf, wordOf_opcodeOf_imm8Of]
  have himm : (imm8Of w).toNat < 256 := (imm8Of w).isLt
  omega

/-- The mask of the opcode map keeps the opcode and clears the operand byte (30_encoding.md R51). -/
theorem and_opcodeMask (w : Command) : w &&& 0xF00 = wordOf (opcodeOf w) 0x00 := by
  have hmask : (0xF00 : Command) = wordOf (BitVec.allOnes 4) 0x00 := rfl
  calc w &&& 0xF00 = wordOf (opcodeOf w) (imm8Of w) &&& wordOf (BitVec.allOnes 4) 0x00 := by
        rw [wordOf_opcodeOf_imm8Of, hmask]
    _ = wordOf (opcodeOf w &&& BitVec.allOnes 4) (imm8Of w &&& 0x00) := BitVec.and_append
    _ = wordOf (opcodeOf w) 0x00 := by rw [BitVec.and_allOnes]; exact congrArg _ BitVec.and_zero

/-! What the encoder, the decoder and the rows of the map are, in the opcode of a command and SETP's operand. -/

/-- The opcode column of the map (30_encoding.md R51). -/
def Instr.opcode : Instr → BitVec 4
  | .begin => 0x1
  | .setp _ => 0x2
  | .start => 0x3
  | .rdy => 0x4
  | .read => 0x5
  | .getTemp => 0x6
  | .getRaw => 0x7
  | .getAddr => 0x8
  | .isReading => 0x9

theorem encode_setp (imm8 : Byte) : encode (.setp imm8) = wordOf 0x2 imm8 := rfl

theorem encode_without_operand {i : Instr} (hi : ∀ x, i ≠ .setp x) : encode i = wordOf i.opcode 0x00 := by
  cases i with
  | setp x => exact absurd rfl (hi x)
  | begin | start | rdy | read | getTemp | getRaw | getAddr | isReading => rfl

@[simp] theorem opcodeOf_encode (i : Instr) : opcodeOf (encode i) = i.opcode := by
  cases i <;> exact opcodeOf_wordOf ..

/-- The decoder reads the opcode, and the operand byte for SETP alone. -/
theorem decode_eq_ok_iff {w : Command} {i : Instr} :
    decode w = .ok i ↔ opcodeOf w = i.opcode ∧ ∀ x, i = .setp x → x = imm8Of w := by
  constructor
  · intro h
    unfold decode at h
    split at h <;> cases h
    all_goals exact ⟨BitVec.eq_of_toNat_eq ‹_›, by simp⟩
  · rintro ⟨hop, himm⟩
    cases i with
    | setp x => simp [decode, hop, Instr.opcode, himm x rfl]
    | begin | start | rdy | read | getTemp | getRaw | getAddr | isReading => simp [decode, hop, Instr.opcode]

/-- An opcode that is some command's decodes, whatever the operand byte. -/
theorem exists_decode_eq_ok {w : Command} {j : Instr} (hop : opcodeOf w = j.opcode) : ∃ i, decode w = .ok i := by
  cases j with
  | setp x => exact ⟨.setp (imm8Of w), decode_eq_ok_iff.2 ⟨hop, by simp⟩⟩
  | begin | start | rdy | read | getTemp | getRaw | getAddr | isReading =>
    exact ⟨_, decode_eq_ok_iff.2 ⟨hop, nofun⟩⟩

theorem decode_encode (i : Instr) : decode (encode i) = .ok i := by
  refine decode_eq_ok_iff.2 ⟨opcodeOf_encode i, ?_⟩
  rintro x rfl
  rw [encode_setp, imm8Of_wordOf]

/-- Settles O1: the encoded word has the opcode and the operand the decoder reads. -/
theorem decodeOfEncodeIsTheCommand : Obligations.DecodeOfEncodeIsTheCommand := by
  refine ⟨decode_encode, fun i w hi hop => decode_eq_ok_iff.2 ⟨?_, fun x hx => absurd hx (hi x)⟩⟩
  rw [hop, opcodeOf_encode]

/-- Settles O2: a word is its opcode above its operand byte, and the command it decodes to has the former, and for SETP
the latter. -/
theorem encodeOfDecodeIsTheCanonicalWord : Obligations.EncodeOfDecodeIsTheCanonicalWord := by
  intro w i h
  obtain ⟨hop, himm⟩ := decode_eq_ok_iff.1 h
  refine ⟨?_, fun hi => ?_⟩
  · rintro x rfl
    obtain rfl : x = imm8Of w := himm x rfl
    refine ⟨?_, rfl⟩
    calc encode (.setp (imm8Of w)) = wordOf (opcodeOf w) (imm8Of w) := by rw [hop]; rfl
      _ = w := wordOf_opcodeOf_imm8Of w
  · rw [encode_without_operand hi, hop]

theorem row_eq (i : Instr) : i.row = ⟨0xF00, wordOf i.opcode 0x00⟩ := by
  cases i <;> simp [Instr.row, Instr.opcode, wordOf]

theorem wordOf_zero_inj {op op' : BitVec 4} : wordOf op 0x00 = wordOf op' 0x00 ↔ op = op' :=
  ⟨fun h => by simpa using congrArg opcodeOf h, fun h => by rw [h]⟩

theorem row_eq_row_iff {i j : Instr} : i.row = j.row ↔ i.opcode = j.opcode := by
  rw [row_eq, row_eq, OpcodeRow.mk.injEq, wordOf_zero_inj, and_iff_right rfl]

theorem row_selects_iff {i : Instr} {w : Command} : i.row.selects w = true ↔ opcodeOf w = i.opcode := by
  rw [row_eq, OpcodeRow.selects, beq_iff_eq, and_opcodeMask, wordOf_zero_inj]

/-- Settles O3: a row selects by the opcode, and so does the decoder. -/
theorem wordSelectsExactlyTheRowItDecodesTo : Obligations.WordSelectsExactlyTheRowItDecodesTo := by
  refine ⟨fun w i j h => ?_, fun w j h => exists_decode_eq_ok (row_selects_iff.1 h)⟩
  obtain ⟨hop, -⟩ := decode_eq_ok_iff.1 h
  rw [row_selects_iff, row_eq_row_iff, hop, eq_comm]

/-! The words that select no command (30_encoding.md R53). -/

theorem opcodeOf_eq_zero_iff {w : Command} : opcodeOf w = 0x0 ↔ (opcodeOf w).toNat = 0 := BitVec.toNat_inj.symm

/-- The decoder's default arm takes what is left beside the opcodes 1 to 9. -/
theorem exists_decode_eq_error_iff {w : Command} :
    (∃ e, decode w = .error e) ↔ opcodeOf w = 0x0 ∨ 0xA ≤ (opcodeOf w).toNat := by
  rw [opcodeOf_eq_zero_iff]
  unfold decode
  split
  case h_10 =>
    simp only [imp_false] at *
    simp
    omega
  all_goals
    simp
    omega

theorem decodeTableWord_eq_none_iff {nbits n : Nat} :
    decodeTableWord nbits n = none ↔ ∃ e, decode (tableCommand nbits n) = .error e := by
  unfold decodeTableWord
  split <;> simp [*]

/-- The legal words of the map's 4096 stand side by side. -/
theorem decodeTableWord_isSome_iff {n : Nat} (hn : n < 4096) :
    (decodeTableWord 12 n).isSome = true ↔ 0x100 ≤ n ∧ n < 0xA00 := by
  have hop : (opcodeOf (tableCommand 12 n)).toNat = n / 256 := by
    rw [toNat_opcodeOf, tableCommand, BitVec.toNat_ofNat]
    omega
  rw [Option.isSome_iff_ne_none, ne_eq, decodeTableWord_eq_none_iff, exists_decode_eq_error_iff,
    opcodeOf_eq_zero_iff, hop]
  omega

/-- Settles O4: the decoder's default arm, and the legal words as an interval of numbers. -/
theorem illegalOpcodesSelectNoCommand : Obligations.IllegalOpcodesSelectNoCommand := by
  refine ⟨fun w => exists_decode_eq_error_iff, ?_⟩
  have hlegal : (Finset.range 4096).filter (fun n => (decodeTableWord 12 n).isSome) = Finset.Ico 0x100 0xA00 := by
    ext n
    rw [Finset.mem_filter, Finset.mem_range, Finset.mem_Ico]
    exact ⟨fun ⟨hn, h⟩ => (decodeTableWord_isSome_iff hn).1 h,
      fun h => ⟨by omega, (decodeTableWord_isSome_iff (by omega)).2 h⟩⟩
  calc ((List.range 4096).filter (fun n => (decodeTableWord 12 n).isSome)).length
      = (Finset.Ico 0x100 0xA00).card := by
        rw [← hlegal, ← Nat.count_eq_card_filter_range, ← List.countP_eq_length_filter]
        simp [Nat.count]
    _ = 2304 := by rw [Nat.card_Ico]

/-- Settles O5: each word evaluated. -/
theorem specWordsDecodeToTheirCommands : Obligations.SpecWordsDecodeToTheirCommands :=
  ⟨rfl, rfl, rfl, rfl, rfl, rfl, rfl, rfl, rfl, rfl, rfl, rfl, rfl⟩

end Sys2Proof

namespace Sys2Proof.Machine

/-- Settles O6: the pseudo-instructions evaluated, and the number of SETP's word for every operand. -/
theorem pseudoInstructionsExpandToSetp : Obligations.PseudoInstructionsExpandToSetp := by
  refine ⟨rfl, rfl, rfl, rfl, rfl, fun n hn => congrArg some ?_⟩
  change (encode (.setp (BitVec.ofNat 8 n))).toNat = 0x200 + n
  rw [encode_setp, toNat_wordOf, BitVec.toNat_ofNat, Nat.mod_eq_of_lt hn]
  rfl

/-- Settles O7: each line evaluated. -/
theorem assemblerReadsTheLinesOfTheSyntax : Obligations.AssemblerReadsTheLinesOfTheSyntax := by
  unfold Obligations.AssemblerReadsTheLinesOfTheSyntax
  decide

/-- Settles O8: the two tables of codes, name by name. -/
theorem codesOfErrorsAndBusCalls : Obligations.CodesOfErrorsAndBusCalls := by
  refine ⟨⟨rfl, rfl, rfl, rfl, rfl⟩, ⟨rfl, fun _ => rfl, fun _ => rfl, rfl, rfl, fun _ _ => rfl⟩, ?_, ?_⟩
  · intro e
    cases e <;> decide
  · intro call
    cases call <;> simp [busOp]

/-- Settles O10: the word decodes to an error, and the step reports it. -/
theorem illegalWordIsReportedAndChangesNothing : Obligations.IllegalWordIsReportedAndChangesNothing := by
  intro s w rest hs hw hop
  obtain ⟨e, hd⟩ := exists_decode_eq_error_iff.2 hop
  rw [step_of_illegal hs hw hd, illegalWord, raiseError_spec, ← hs]

/-! Which bytes go out by `Bus.write` (30_encoding.md R57, R60). -/

/-- A byte the block may write while RESOLUTION is `r`: one of the four protocol commands, the placeholder, `r`. -/
def Writable (r b : Byte) : Prop := b = 0x4E ∨ b = 0xBE ∨ b = 0x48 ∨ b = 0x44 ∨ b = 0x00 ∨ b = r

/-- A whole command writes protocol bytes and RESOLUTION alone: START its seven bytes, READ its one. -/
theorem after_writes {i : Instr} {s : State} {events : List BusEvent} {b : Byte}
    (h : (after i s).trace = s.trace ++ events) (hb : .write b ∈ events) : Writable s.resolution b := by
  have hsome : events ≠ [] := List.ne_nil_of_mem hb
  cases i with
  | begin =>
    rcases after_begin_cases s with he | he | ⟨_, he⟩ | ⟨_, _, he⟩
    all_goals
      simp [he] at h
      simp [← h] at hb
  | start =>
    cases hbound : s.bound
    · rw [after_start_unbound hbound] at h
      exact absurd (List.self_eq_append_right.1 h) hsome
    · rw [after_start_bound hbound, startSequence_spec] at h
      obtain rfl := List.append_cancel_left h
      simp [writeScratchpad, alarmPlaceholder, copyScratchpad, convertTemperature] at hb
      simp only [Writable]
      tauto
  | rdy =>
    obtain rfl := List.append_cancel_left (show s.trace ++ [.read s.nextByte] = s.trace ++ events from h)
    simp at hb
  | read =>
    cases hbound : s.bound
    · rw [after_read_unbound hbound] at h
      exact absurd (List.self_eq_append_right.1 h) hsome
    · rw [after_read_bound hbound, readSequence_spec] at h
      obtain rfl := List.append_cancel_left h
      have hb : b = readScratchpad := by simpa using hb
      exact .inr (.inl hb)
  | setp | getTemp | getRaw | getAddr | isReading =>
    exact absurd (List.self_eq_append_right.1 h) hsome

/-- A labelled statement that writes at all writes one byte, a protocol byte or RESOLUTION. -/
theorem microStep_writes {s : State} {events : List BusEvent} {b : Byte}
    (h : (microStep s).trace = s.trace ++ events) (hb : .write b ∈ events) : Writable s.resolution b := by
  have hsome : events ≠ [] := List.ne_nil_of_mem hb
  unfold microStep at h
  cases hq : s.seq with simp only [hq] at h
  | startS3 | startS4 | startS5 | startS6 | startS7 | startS10 | readD4 =>
    obtain rfl := List.append_cancel_left h
    obtain rfl : b = _ := BusEvent.write.inj (List.mem_singleton.1 hb)
    simp [Writable, writeScratchpad, alarmPlaceholder, copyScratchpad, convertTemperature, readScratchpad]
  | beginB0 | beginB1 | beginB2 =>
    split at h
    all_goals
      obtain rfl := List.append_cancel_left h
      simp at hb
  | startS1 | startS2 | startS8 | startS9 | rdyY0 | readD2 | readD3 | readD5 | readD6 =>
    obtain rfl := List.append_cancel_left h
    simp at hb
  | startS0 | readD0 => split at h <;> exact absurd (List.self_eq_append_right.1 h) hsome
  | idle | setpP0 | readD1 | getTempG0 | getRawG0 | getAddrG0 | isReadingG0 =>
    exact absurd (List.self_eq_append_right.1 h) hsome

/-- Settles O40: the bytes a whole command and a labelled statement write; a step does nothing else on the bus. -/
theorem onlyTheProtocolBytesAreWritten : Obligations.OnlyTheProtocolBytesAreWritten := by
  intro s t events b hstep ht hb
  have hsome : events ≠ [] := List.ne_nil_of_mem hb
  rcases step_cases hstep with ⟨-, -, rfl⟩ | ⟨rest, -, -, rfl⟩ | ⟨-, rest, -, -, -, -, rfl⟩ |
    ⟨-, rest, i, -, -, -, rfl⟩ | ⟨-, rfl⟩
  · exact absurd (List.self_eq_append_right.1 ht) hsome
  · exact absurd (List.self_eq_append_right.1 ht) hsome
  · exact absurd (List.self_eq_append_right.1 ht) hsome
  · exact after_writes (s := { s with inputs := rest }) ht hb
  · exact microStep_writes ht hb

/-! The host's `WAIT` (30_encoding.md R61), pass by pass. -/

/-- A command the host issues in IDLE runs to its end, and the further inputs stay. -/
theorem issue_encode {s : State} (hs : s.seq = .idle) (i : Instr) : issue (encode i) s = .next (after i s) :=
  step_of_command hs rfl (decode_encode i)

theorem hostReady_resultOfByte (b : Byte) : hostReady (resultOfByte b) = (b != 0x00) := by
  have hlow : (resultOfByte b).extractLsb' 0 8 = b := by
    apply BitVec.eq_of_toNat_eq
    simpa [resultOfByte] using b.isLt
  rw [hostReady, hlow]

theorem lastOutputs_after_rdy (s : State) :
    (after .rdy s).lastOutputs = some (resultOfByte (byteAnswer s.bytes s.draws), .ok) := by
  simp [after, State.lastOutputs, recordOutputs]

/-- One pass: RDY, and the loop is left exactly when its byte is not 0x00. -/
theorem waitReady_succ {s : State} (hs : s.seq = .idle) (n : Nat) :
    waitReady (n + 1) s =
      if byteAnswer s.bytes s.draws = 0x00 then waitReady n (after .rdy s) else .ready (after .rdy s) := by
  simp [waitReady, issue_encode hs, lastOutputs_after_rdy, hostReady_resultOfByte]

/-- Settles O60, by induction on the number of 0x00 bytes: each is passed over by one pass, and the pass after them
leaves the loop. -/
theorem waitEndsAtTheFirstReadyByte : Obligations.WaitEndsAtTheFirstReadyByte := by
  intro k b rest s hs hbytes hb
  induction k generalizing s with
  | zero =>
    have hbytes : s.bytes = b :: rest := hbytes
    refine ⟨⟨s, rfl⟩, after .rdy s, ?_, ?_, ?_, rfl, rfl⟩
    · rw [waitReady_succ hs, hbytes, byteAnswer, if_neg hb]
    · simp [after, hbytes]
    · rw [lastOutputs_after_rdy, hbytes]
      rfl
  | succ k ih =>
    have hbytes : s.bytes = 0x00 :: (List.replicate k 0x00 ++ b :: rest) := hbytes
    have hpass (n : Nat) : waitReady (n + 1) s = waitReady n (after .rdy s) := by
      rw [waitReady_succ hs, hbytes, byteAnswer, if_pos rfl]
    rw [hpass, hpass]
    exact ih (after .rdy s) rfl (by simp [after, hbytes])

end Sys2Proof.Machine

namespace Sys2Proof.Machine

/-! BEGIN (40_discovery.md R70 to R72): its acceptance test, the calls behind its exits, and each exit's whole next state. -/

/-- Settles O19: with a candidate in hand BEGIN has two ends, and the CRC test chooses between them. -/
theorem beginAcceptsExactlyOnTheCrcTest : Obligations.BeginAcceptsExactlyOnTheCrcTest := by
  intro s cand hp hf
  refine ⟨after .begin s, exec_eq_after .begin s, ?_⟩
  change _ ∧ (_ ↔ crcOf cand = cand[7]) ∧ _
  by_cases hc : crcOf cand = cand[7]
  · rw [after_begin_match hp hf hc]
    simp [hc]
  · rw [after_begin_mismatch hp hf hc]
    simp [hc]

/-- BEGIN's two calls up to the answer of the search. -/
theorem trace_busSearch {s : State} {found : Option Address} (hp : presenceAnswer s.presences s.draws = true)
    (hf : searchAnswer s.finds (s.draws + 1) = found) :
    s.busReset.busSearch.trace = s.trace ++ [.reset true, .search found] := by
  simp [hp, hf]

/-- BEGIN's three calls up to the CRC of the candidate. -/
theorem trace_busCrc8 {s : State} {cand : Address} (hp : presenceAnswer s.presences s.draws = true)
    (hf : searchAnswer s.finds (s.draws + 1) = some cand) :
    (s.busReset.busSearch.busCrc8 cand).trace =
      s.trace ++ [.reset true, .search (some cand), .crc8 (firstSeven cand) 7 (crcOf cand)] := by
  rw [busCrc8_trace, trace_busSearch hp hf, List.append_assoc]
  rfl

/-- Settles O15: the exit that binds. -/
theorem beginBindsACandidateThatPassesTheCrc : Obligations.BeginBindsACandidateThatPassesTheCrc := by
  intro s cand hp hf hc
  have ht := trace_busCrc8 hp hf
  rw [show crcOf cand = cand[7] from hc] at ht
  rw [exec_eq_after, after_begin_match hp hf hc]
  simp only [State.complete, bindTo_trace, ht]
  rfl

/-- Settles O16: the FAIL exit after the reset. -/
theorem beginFailsWithoutPresence : Obligations.BeginFailsWithoutPresence := by
  intro s hp
  rw [exec_eq_after, after_begin_absent hp, failDiscovery_spec, busReset_trace, nextPresence_eq, hp]
  rfl

/-- Settles O17: the FAIL exit after the search. -/
theorem beginFailsWhenTheSearchIsExhausted : Obligations.BeginFailsWhenTheSearchIsExhausted := by
  intro s hp hf
  rw [exec_eq_after, after_begin_exhausted hp hf, failDiscovery_spec, trace_busSearch hp hf]
  rfl

/-- Settles O18: the FAIL exit after the CRC. -/
theorem beginFailsFastOnACrcMismatch : Obligations.BeginFailsFastOnACrcMismatch := by
  intro s cand hp hf hc
  rw [exec_eq_after, after_begin_mismatch hp hf hc, failDiscovery_spec, trace_busCrc8 hp hf]
  rfl

end Sys2Proof.Machine

namespace Sys2Proof.Safety

open Sys2Proof.Machine

/-! The resolution byte (41_resolution_config.md R80, R81): the record keeps the one in force beside the one last sent. -/

theorem noteSent_fst (p : Byte × Option Byte) (r : Record) : (noteSent p r).1 = noteResolution p.1 r := by
  cases r with
  | reset => rfl
  | completed cmd result err =>
    cases cmd with
    | none => rfl
    | some i =>
      cases i with
      | start => cases err <;> rfl
      | begin | setp | rdy | read | getTemp | getRaw | getAddr | isReading => rfl

/-- The first of the pair `sentAfter` folds is the byte in force. -/
theorem sentAfter_fst (h : List Record) : (sentAfter h).1 = resolutionAfter h :=
  (List.foldl_hom Prod.fst fun p r => (noteSent_fst p r).symm).symm

/-- Settles O20: one register write and one record. -/
theorem setpStoresItsOperandAndNothingElse : Obligations.SetpStoresItsOperandAndNothingElse :=
  fun imm8 s => exec_eq_after (.setp imm8) s

/-- Settles O21: SETP records the byte in force alone; START records that byte as sent, which by the invariant is the
RESOLUTION it puts in its sixth call. -/
theorem setpTakesEffectAtTheNextStart : Obligations.SetpTakesEffectAtTheNextStart := by
  refine ⟨fun imm8 s t h => ?_, fun s t hinv hb h => ?_⟩
  · rw [exec_eq_after] at h
    cases h
    exact ⟨after_trace (i := .setp imm8) nofun nofun nofun nofun s, by simp [after, noteSent]⟩
  · rw [exec_eq_after, after_start_bound hb, startSequence_spec] at h
    cases h
    have hforce : (sentAfter s.history).1 = s.resolution := (sentAfter_fst _).trans hinv.resolutionIsRecorded.symm
    constructor
    · rw [sentAfter_append, noteSent, hforce]
    · rw [List.drop_left]
      rfl

end Sys2Proof.Safety

namespace Sys2Proof.Machine

/-! START, RDY and READ (42_conversion_sequence.md R85 to R91): their whole next states, the calls of every command as one
list, and what the presence answers and CIP do not reach. -/

/-- Settles O22: START past its check of BOUND. -/
theorem startSendsExactlyItsTenCalls : Obligations.StartSendsExactlyItsTenCalls := by
  intro s hb
  rw [exec_eq_after, after_start_bound hb, startSequence_spec]
  rfl

/-- Settles O24: one bus read and one record. -/
theorem rdyReturnsTheByteUnchanged : Obligations.RdyReturnsTheByteUnchanged :=
  fun s => exec_eq_after .rdy s

/-- Settles O25: READ past its check of BOUND, its two reads answered `low` and then `high`. -/
theorem readStoresTheTwoBytesRead : Obligations.ReadStoresTheTwoBytesRead := by
  rintro s low high hb rfl rfl
  rw [exec_eq_after, after_read_bound hb, readSequence_spec]
  rfl

/-- The calls a command makes from `s`, as the rule of each command gives them: R70 for BEGIN, R85 to R87 for START, RDY
and READ; R80 and R114 have none. -/
def callList (s : State) : Instr → List BusCall
  | .begin =>
    match presenceAnswer s.presences s.draws, searchAnswer s.finds (s.draws + 1) with
    | false, _ => [.reset]
    | true, none => [.reset, .search]
    | true, some cand => [.reset, .search, .crc8 (firstSeven cand) 7]
  | .start =>
    if s.bound then
      [.reset, .select s.address, .write writeScratchpad, .write alarmPlaceholder, .write alarmPlaceholder,
       .write s.resolution, .write copyScratchpad, .reset, .select s.address, .write convertTemperature]
    else []
  | .rdy => [.read]
  | .read => if s.bound then [.reset, .select s.address, .write readScratchpad, .read, .read] else []
  | .setp _ | .getTemp | .getRaw | .getAddr | .isReading => []

/-- BEGIN's calls stop at the answer that ends it. -/
theorem after_begin_events (s : State) :
    ∃ events, (after .begin s).trace = s.trace ++ events ∧ events.map busCallOf = callList s .begin := by
  rcases begin_cases s with hp | ⟨hp, hf⟩ | ⟨cand, hp, hf, hc⟩ | ⟨cand, hp, hf, hc⟩
  · rw [after_begin_absent hp]
    exact ⟨_, rfl, by simp [callList, hp, busCallOf]⟩
  · rw [after_begin_exhausted hp hf]
    exact ⟨_, trace_busSearch hp hf, by simp [callList, hp, hf, busCallOf]⟩
  · rw [after_begin_mismatch hp hf hc]
    exact ⟨_, trace_busCrc8 hp hf, by simp [callList, hp, hf, busCallOf]⟩
  · rw [after_begin_match hp hf hc]
    exact ⟨_, trace_busCrc8 hp hf, by simp [callList, hp, hf, busCallOf]⟩

/-- Every command appends events to the trace, and the calls behind them are its list. -/
theorem after_events (i : Instr) (s : State) :
    ∃ events, (after i s).trace = s.trace ++ events ∧ events.map busCallOf = callList s i := by
  cases i with
  | begin => exact after_begin_events s
  | start =>
    cases hb : s.bound
    · rw [after_start_unbound hb]
      exact ⟨[], by simp, by simp [callList, hb]⟩
    · rw [after_start_bound hb, startSequence_spec]
      exact ⟨_, rfl, by simp [callList, hb, busCallOf]⟩
  | rdy => exact ⟨_, rfl, rfl⟩
  | read =>
    cases hb : s.bound
    · rw [after_read_unbound hb]
      exact ⟨[], by simp, by simp [callList, hb]⟩
    · rw [after_read_bound hb, readSequence_spec]
      exact ⟨_, rfl, by simp [callList, hb, busCallOf]⟩
  | setp | getTemp | getRaw | getAddr | isReading => exact ⟨[], (List.append_nil _).symm, rfl⟩

theorem after_calls (i : Instr) (s : State) : (after i s).calls = s.calls ++ callList s i := by
  obtain ⟨events, ht, hcalls⟩ := after_events i s
  rw [State.calls, ht, List.map_append, hcalls, State.calls]

/-- Settles O38: the calls of each command are `callList`, whose entries are the lists of the rules. -/
theorem callListOfEachCommandIsExact : Obligations.CallListOfEachCommandIsExact := by
  intro i s
  obtain ⟨events, ht, hcalls⟩ := after_events i s
  refine ⟨after i s, events, exec_eq_after i s, ht, ?begin, ?start, ?rdy, ?read, fun hb hs hy hr => ?none⟩
  case begin | start | rdy | read =>
    rintro rfl
    exact hcalls
  case none =>
    rw [after_trace hb hs hy hr] at ht
    exact List.self_eq_append_right.1 ht

/-- Settles O42: `callList` of START and of READ does not mention the presence answers, and neither does anything else
in their next states but the recorded answers themselves. -/
theorem presenceIsDiscardedOutsideBegin : Obligations.PresenceIsDiscardedOutsideBegin := by
  intro i s answers hi
  have hlist : callList { s with presences := answers } i = callList s i := by rcases hi with rfl | rfl <;> rfl
  refine ⟨after i s, after i { s with presences := answers }, exec_eq_after .., exec_eq_after ..,
    by rw [after_calls, after_calls, hlist]; rfl, ?_⟩
  rcases hi with rfl | rfl <;> rcases Bool.eq_false_or_eq_true s.bound with hb | hb
  · rw [after_start_bound hb, after_start_bound (by exact hb), startSequence_spec, startSequence_spec]
    exact ⟨rfl, rfl, rfl, rfl, rfl⟩
  · rw [after_start_unbound hb, after_start_unbound (by exact hb)]
    exact ⟨rfl, rfl, rfl, rfl, rfl⟩
  · rw [after_read_bound hb, after_read_bound (by exact hb), readSequence_spec, readSequence_spec]
    exact ⟨rfl, rfl, rfl, rfl, rfl⟩
  · rw [after_read_unbound hb, after_read_unbound (by exact hb)]
    exact ⟨rfl, rfl, rfl, rfl, rfl⟩

/-! What a command does to a state in which CIP is overwritten: START and READ past their check write it unread. -/

theorem after_begin_overwrite_cip (s : State) (v : Bool) :
    after .begin { s with cip := v } = { after .begin s with cip := v } := by
  rcases begin_cases s with hp | ⟨hp, hf⟩ | ⟨cand, hp, hf, hc⟩ | ⟨cand, hp, hf, hc⟩
  · rw [after_begin_absent hp, after_begin_absent (by exact hp)]; rfl
  · rw [after_begin_exhausted hp hf, after_begin_exhausted (by exact hp) (by exact hf)]; rfl
  · rw [after_begin_mismatch hp hf hc, after_begin_mismatch (by exact hp) (by exact hf) hc]; rfl
  · rw [after_begin_match hp hf hc, after_begin_match (by exact hp) (by exact hf) hc]; rfl

theorem after_start_overwrite_cip (s : State) (v : Bool) :
    after .start { s with cip := v } = if s.bound then after .start s else { after .start s with cip := v } := by
  simp only [after]; split <;> rfl

theorem after_read_overwrite_cip (s : State) (v : Bool) :
    after .read { s with cip := v } = if s.bound then after .read s else { after .read s with cip := v } := by
  simp only [after]; split <;> rfl

/-- Settles O44: START and READ by BOUND; every other command but ISREADING carries CIP along. -/
theorem cipGatesNothing : Obligations.CipGatesNothing := by
  intro i s t v hi h
  rw [exec_eq_after] at h
  cases h
  rw [exec_eq_after]
  congr 1
  cases i with
  | isReading => exact absurd rfl hi
  | begin => exact after_begin_overwrite_cip s v
  | start => rw [after_start_overwrite_cip]; cases s.bound <;> rfl
  | read => rw [after_read_overwrite_cip]; cases s.bound <;> rfl
  | setp | rdy | getTemp | getRaw | getAddr => rfl

end Sys2Proof.Machine

namespace Sys2Proof.Machine

/-! The converter and the value of a TEMP (43_celsius_converter.md R100 to R108). Everything about `celsius` follows from
its numerator `t.toInt`: the bounds of a 16-bit signed number, its bits, and its division by sixteen. -/

/-- The byte pair behind a TEMP: the inverse of the converter (R101). -/
def bytesOf (t : Q4) : RawPayload := { low := t.extractLsb' 0 8, high := t.extractLsb' 8 8 }

@[simp] theorem convert_bytesOf (t : Q4) : convert (bytesOf t) = t :=
  BitVec.extractLsb'_append_extractLsb'

theorem extractLsb'_convert_high (r : RawPayload) : (convert r).extractLsb' 8 8 = r.high :=
  BitVec.extractLsb'_append_eq_left

theorem extractLsb'_convert_low (r : RawPayload) : (convert r).extractLsb' 0 8 = r.low :=
  BitVec.extractLsb'_append_eq_right

@[simp] theorem bytesOf_convert (r : RawPayload) : bytesOf (convert r) = r := by
  rw [bytesOf, extractLsb'_convert_high, extractLsb'_convert_low]

theorem toNat_convert (r : RawPayload) : (convert r).toNat = r.high.toNat * 256 + r.low.toNat := by
  rw [convert, raw16, BitVec.toNat_append, ← Nat.shiftLeft_add_eq_or_of_lt r.low.isLt, Nat.shiftLeft_eq]

/-- Settles O49: `bytesOf` is the converter's inverse on both sides. -/
theorem converterIsABijectionOfTheBytes : Obligations.ConverterIsABijectionOfTheBytes :=
  ⟨toNat_convert, fun r => ⟨extractLsb'_convert_high r, extractLsb'_convert_low r⟩,
    fun t => ⟨bytesOf t, convert_bytesOf t, by rintro r rfl; exact (bytesOf_convert r).symm⟩⟩

/-- What bit `k` of a TEMP counts for in degrees when it is not the sign bit (R102). -/
def bitWeight (t : Q4) (k : Nat) : ℚ := (if t.getLsbD k then 1 else 0) * (2 : ℚ) ^ ((k : Int) - 4)

theorem bitWeight_eq (t : Q4) (k : Nat) : bitWeight t k = ((2 ^ k * (t.toNat / 2 ^ k % 2) : Nat) : ℚ) / 16 := by
  have hpow : (2 : ℚ) ^ ((k : Int) - 4) = 2 ^ k / 16 := by
    rw [zpow_sub₀ two_ne_zero, zpow_natCast]; norm_num
  have hbit : t.getLsbD k = decide (t.toNat / 2 ^ k % 2 = 1) := Nat.testBit_eq_decide_div_mod_eq
  rw [bitWeight, hpow, hbit]
  rcases Nat.mod_two_eq_zero_or_one (t.toNat / 2 ^ k) with h | h <;> simp [h]

/-- The low `n` bits weigh the unsigned number they write, in sixteenths. -/
theorem sum_bitWeight (t : Q4) (n : Nat) :
    ((List.range n).map (bitWeight t)).sum = ((t.toNat % 2 ^ n : Nat) : ℚ) / 16 := by
  induction n with
  | zero => simp [Nat.mod_one]
  | succ n ih => rw [List.sum_range_succ, ih, bitWeight_eq, Nat.mod_pow_succ, Nat.cast_add, add_div]

/-- Two's complement: the fifteen low bits as they stand, less `2^15` when the sign bit is set. -/
theorem toInt_eq_low_sub_sign (t : Q4) :
    t.toInt = ((t.toNat % 2 ^ 15 : Nat) : Int) - if t.getLsbD 15 then 2 ^ 15 else 0 := by
  have hlt : t.toNat < 2 ^ 16 := t.isLt
  have hsign : t.getLsbD 15 = decide (2 ^ 15 ≤ t.toNat) := BitVec.msb_eq_decide t
  rw [BitVec.toInt_eq_toNat_cond, hsign]
  by_cases hneg : 2 ^ 15 ≤ t.toNat
  · rw [if_neg (by omega), if_pos (decide_eq_true hneg)]
    omega
  · rw [if_pos (by omega), if_neg (by simpa using hneg)]
    omega

/-- Settles O50: two's complement in sixteenths. -/
theorem celsiusIsTheWeightedSumOfTheBits : Obligations.CelsiusIsTheWeightedSumOfTheBits := by
  intro t
  refine ⟨rfl, ?_⟩
  change celsius t = _ + ((List.range 15).map (bitWeight t)).sum
  rw [celsius, sum_bitWeight, toInt_eq_low_sub_sign]
  generalize t.toNat % 2 ^ 15 = low
  split <;> push_cast <;> ring

theorem toInt_bounds (t : Q4) : -32768 ≤ t.toInt ∧ t.toInt ≤ 32767 :=
  ⟨BitVec.le_toInt t, Int.le_of_lt_add_one BitVec.toInt_lt⟩

/-- A sum of sixteenths that is not zero is at least one of them away from it. -/
theorem sixteenth_le_abs {n : Int} (hn : n ≠ 0) : 1 / 16 ≤ |(n : ℚ) / 16| := by
  have hone : (1 : ℚ) ≤ |(n : ℚ)| := by exact_mod_cast Int.one_le_abs hn
  rw [abs_div, abs_of_pos (by norm_num : (0 : ℚ) < 16)]
  gcongr

theorem celsius_bounds (t : Q4) : -2048 ≤ celsius t ∧ celsius t ≤ 2047.9375 := by
  obtain ⟨hlo, hhi⟩ := toInt_bounds t
  have hlo' : (-32768 : ℚ) ≤ t.toInt := by exact_mod_cast hlo
  have hhi' : (t.toInt : ℚ) ≤ 32767 := by exact_mod_cast hhi
  rw [celsius]
  constructor <;> linarith

theorem celsius_sub (t u : Q4) : celsius t - celsius u = ((t.toInt - u.toInt : Int) : ℚ) / 16 := by
  rw [celsius, celsius, Int.cast_sub, sub_div]

/-- The value of a fixed TEMP, from its numerator. -/
theorem celsius_of_toInt {t : Q4} {n : Int} (h : t.toInt = n) : celsius t = (n : ℚ) / 16 := by
  rw [celsius, h]

/-- Settles O51: the bounds of the numerator, and distinct patterns have distinct numerators. -/
theorem celsiusRangeAndStep : Obligations.CelsiusRangeAndStep := by
  refine ⟨celsius_bounds, ?lowest, ?highest, fun t u htu => ?step⟩
  case lowest => rw [celsius_of_toInt (n := -32768) (by decide)]; norm_num
  case highest => rw [celsius_of_toInt (n := 32767) (by decide)]; norm_num
  case step =>
    rw [celsius_sub]
    exact sixteenth_le_abs (sub_ne_zero.2 (mt BitVec.toInt_inj.1 htu))

/-- The numerator is the significand and `-4` the exponent (R104). -/
theorem representable_celsius {p : Nat} {minExp maxExp : Int} (hp : 16 ≤ p) (hmin : minExp ≤ -4)
    (hmax : -4 ≤ maxExp) (t : Q4) : representable p minExp maxExp (celsius t) := by
  refine ⟨t.toInt, -4, ?_, hmin, hmax, ?_⟩
  · obtain ⟨hlo, hhi⟩ := toInt_bounds t
    calc t.toInt.natAbs < 2 ^ 16 := by omega
      _ ≤ 2 ^ p := Nat.pow_le_pow_right two_pos hp
  · rw [celsius, div_eq_mul_inv]; norm_num

theorem celsius_eq_zero_or_sixteenth_le (t : Q4) : celsius t = 0 ∨ 1 / 16 ≤ |celsius t| := by
  by_cases h : t.toInt = 0
  · exact .inl (by rw [celsius_of_toInt h]; norm_num)
  · exact .inr (sixteenth_le_abs h)

/-- Settles O52: sixteen significand bits and the exponent `-4` fit both formats, and `2^(-126)` is below one
sixteenth. -/
theorem celsiusIsExactInBinaryFloatingPoint : Obligations.CelsiusIsExactInBinaryFloatingPoint := by
  intro t
  have hnormal : (2 : ℚ) ^ (-126 : Int) ≤ 1 / 16 := by norm_num
  exact ⟨representable_celsius (by decide) (by decide) (by decide) t,
    representable_celsius (by decide) (by decide) (by decide) t,
    (celsius_eq_zero_or_sixteenth_le t).imp_right hnormal.trans⟩

theorem intView_eq (t : Q4) : intView t = t.toInt / 16 := by
  rw [intView, BitVec.toInt_sshiftRight, Int.shiftRight_eq_div_pow]
  rfl

theorem fracView_eq (t : Q4) : (fracView t : Int) = t.toInt % 16 := by
  have hnat : fracView t = t.toNat % 16 := BitVec.extractLsb'_toNat 0 4 t
  rw [hnat, BitVec.toInt_eq_toNat_cond]
  split <;> omega

theorem intView_eq_floor (t : Q4) : intView t = ⌊celsius t⌋ := by
  rw [intView_eq, celsius]
  exact (Rat.floor_intCast_div_natCast t.toInt 16).symm

theorem intView_bounds (t : Q4) : -2048 ≤ intView t ∧ intView t ≤ 2047 := by
  have := toInt_bounds t
  rw [intView_eq]
  omega

theorem fracView_le (t : Q4) : fracView t ≤ 15 := by
  have := fracView_eq t
  omega

/-- Division with remainder by sixteen, in degrees (R106). -/
theorem celsius_eq_intView_add_fracView (t : Q4) : celsius t = intView t + (fracView t : ℚ) / 16 := by
  have hdiv : t.toInt = 16 * intView t + fracView t := by
    rw [intView_eq, fracView_eq, Int.mul_ediv_add_emod]
  rw [celsius_of_toInt hdiv]
  push_cast
  ring

/-- Settles O53: INT and FRAC are the quotient and the remainder of the numerator by sixteen. -/
theorem integerAndFractionViewsRebuildCelsius : Obligations.IntegerAndFractionViewsRebuildCelsius := by
  refine ⟨fun t => ?views, ?fixed, by decide, by decide⟩
  case views =>
    have hfrac : (fracView t : ℚ) ≤ 15 := by exact_mod_cast fracView_le t
    refine ⟨intView_eq_floor t, (intView_bounds t).1, (intView_bounds t).2, fracView_le t,
      celsius_eq_intView_add_fracView t, by positivity, by linarith, ?tenThousandths, ?digits⟩
    case tenThousandths => push_cast; ring
    case digits => exact Nat.mul_le_mul_right 625 (fracView_le t)
  case fixed => rw [celsius_of_toInt (n := -8) (by decide)]; norm_num

/-- Settles O54: each example by its numerator. -/
theorem sourceExamplesConvert : Obligations.SourceExamplesConvert := by
  have hplus : (0x0191 : Q4).toInt = 401 := by decide
  have hminus : (0xFF00 : Q4).toInt = -256 := by decide
  refine ⟨⟨by decide, hplus, ?_⟩, ⟨by decide, ?_⟩, by decide, hminus, ?_⟩
  · rw [celsius_of_toInt hplus]; norm_num
  · rw [celsius_of_toInt (n := 0) (by decide)]; norm_num
  · rw [celsius_of_toInt hminus]; norm_num

end Sys2Proof.Machine

namespace Sys2Proof.Machine

/-! The accessors (44_accessors.md R110 to R114): where RESULT holds each byte (30_encoding.md R55), what GETRAW and
GETADDR answer by whether their register is specified, and the one thing all four do, which is to end with a value. -/

theorem extractLsb'_resultOfRaw_low (r : RawPayload) : (resultOfRaw r).extractLsb' 0 8 = r.low :=
  (BitVec.extractLsb'_setWidth_of_le (by decide)).trans (extractLsb'_convert_low r)

theorem extractLsb'_resultOfRaw_high (r : RawPayload) : (resultOfRaw r).extractLsb' 8 8 = r.high :=
  (BitVec.extractLsb'_setWidth_of_le (by decide)).trans (extractLsb'_convert_high r)

theorem extractLsb'_resultOfRaw_above (r : RawPayload) : (resultOfRaw r).extractLsb' 16 48 = 0 := by
  rw [resultOfRaw, BitVec.setWidth_eq_append (by decide)]
  exact BitVec.extractLsb'_append_eq_left

/-- A byte put below `x` moves every byte of `x` up by one. -/
theorem extractLsb'_append_byte {v k : Nat} {x : BitVec v} {b c : Byte} (h : x.extractLsb' k 8 = c) :
    (x ++ b).extractLsb' (k + 8) 8 = c :=
  (BitVec.extractLsb'_append_eq_of_le (Nat.le_add_left 8 k)).trans h

/-- Byte `i` of the address lies above `i` others; byte 7 has none above it. -/
theorem extractLsb'_resultOfAddress (a : Address) (i : Fin 8) :
    (resultOfAddress a).extractLsb' (8 * i.val) 8 = a[i.val] := by
  rw [resultOfAddress]
  fin_cases i
  all_goals repeat refine extractLsb'_append_byte ?_
  on_goal 8 => exact BitVec.extractLsb'_eq_self
  all_goals exact BitVec.extractLsb'_append_eq_right

theorem getElem_anyAddress (n : Nat) (i : Fin 8) : (Config.anyAddress n)[i.val] = Config.anyByte (n + i.val) := by
  fin_cases i <;> rfl

theorem after_getRaw_known {s : State} (hk : s.rawKnown = true) :
    after .getRaw s = s.complete (some .getRaw) (resultOfRaw s.raw) .ok := by
  simp only [after, State.rawSeen, hk, if_true]
  rfl

theorem after_getRaw_unknown {s : State} (hk : s.rawKnown = false) :
    after .getRaw s = (s.drawn 2).complete (some .getRaw) (resultOfRaw (Config.anyRaw s.draws)) .ok := by
  simp [after, State.rawSeen, hk]

theorem after_getAddr_bound {s : State} (hb : s.bound = true) :
    after .getAddr s = s.complete (some .getAddr) (resultOfAddress s.address) .ok := by
  simp only [after, State.addressSeen, hb, if_true]
  rfl

theorem after_getAddr_unbound {s : State} (hb : s.bound = false) :
    after .getAddr s = (s.drawn 8).complete (some .getAddr) (resultOfAddress (Config.anyAddress s.draws)) .ok := by
  simp [after, State.addressSeen, hb]

/-- Settles O26: GETTEMP ends with TEMP. -/
theorem getTempReturnsTemp : Obligations.GetTempReturnsTemp :=
  fun s => exec_eq_after .getTemp s

/-- Settles O27: RAW is specified, and `resultOfRaw` lays out its two bytes. -/
theorem getRawReturnsRawOnceRead : Obligations.GetRawReturnsRawOnceRead := by
  intro s hk
  refine ⟨resultOfRaw s.raw, extractLsb'_resultOfRaw_low s.raw, extractLsb'_resultOfRaw_high s.raw,
    extractLsb'_resultOfRaw_above s.raw, ?_⟩
  rw [exec_eq_after, after_getRaw_known hk]
  rfl

/-- Settles O28: RAW is unspecified, so two draws stand for it. -/
theorem getRawDrawsBeforeAnyRead : Obligations.GetRawDrawsBeforeAnyRead := by
  intro s hk
  rw [exec_eq_after, after_getRaw_unknown hk]
  rfl

/-- Settles O29: ADDRESS is specified, and `resultOfAddress` lays out its eight bytes. -/
theorem getAddrReturnsTheBoundAddress : Obligations.GetAddrReturnsTheBoundAddress := by
  intro s hb
  refine ⟨resultOfAddress s.address, extractLsb'_resultOfAddress s.address, ?_⟩
  rw [exec_eq_after, after_getAddr_bound hb]
  rfl

/-- Settles O30: ADDRESS is unspecified, so eight draws stand for it, laid out in the same way. -/
theorem getAddrDrawsWhenUnbound : Obligations.GetAddrDrawsWhenUnbound := by
  intro s hb
  refine ⟨resultOfAddress (Config.anyAddress s.draws), fun i => ?byte, ?next⟩
  case byte => rw [extractLsb'_resultOfAddress, getElem_anyAddress]
  case next =>
    rw [exec_eq_after, after_getAddr_unbound hb]
    rfl

/-- Settles O31: ISREADING ends with CIP. -/
theorem isReadingReturnsCip : Obligations.IsReadingReturnsCip :=
  fun s => exec_eq_after .isReading s

/-- An accessor takes draws at most, and ends with E_OK. -/
theorem after_accessor {i : Instr} (hi : i = .getTemp ∨ i = .getRaw ∨ i = .getAddr ∨ i = .isReading) (s : State) :
    ∃ n result, after i s = (s.drawn n).complete (some i) result .ok := by
  rcases hi with rfl | rfl | rfl | rfl
  · exact ⟨0, _, rfl⟩
  · exact ⟨_, _, rfl⟩
  · exact ⟨_, _, rfl⟩
  · exact ⟨0, _, rfl⟩

/-- Settles O32: draws and the end of a command are neither a bus call nor a register write. -/
theorem accessorsAreReadsWithoutEffect : Obligations.AccessorsAreReadsWithoutEffect := by
  intro i s hi
  obtain ⟨n, result, h⟩ := after_accessor hi s
  rw [exec_eq_after, h]
  exact ⟨_, result, rfl, rfl, rfl, rfl, rfl, rfl, rfl, rfl, rfl⟩

end Sys2Proof.Machine

namespace Sys2Proof.Machine

/-! The two errors of the block (60_exceptions.md R122, R124, R128). -/

/-- START and READ taken unbound do one thing alike: they raise E_NOT_INITIALIZED. -/
theorem after_unbound {i : Instr} {s : State} (hi : i = .start ∨ i = .read) (hb : s.bound = false) :
    after i s = s.raiseError (some i) .notInitialized := by
  rcases hi with rfl | rfl
  · exact after_start_unbound hb
  · exact after_read_unbound hb

/-- Settles O23: the error is raised, and raising it moves SEQ and adds the record alone. -/
theorem unboundStartAndReadReportNotInitialized : Obligations.UnboundStartAndReadReportNotInitialized := by
  intro i s hi hb
  rw [exec_eq_after, after_unbound hi hb, raiseError_spec]

/-- Only the error path of START and READ records E_NOT_INITIALIZED. -/
theorem after_of_notInitialized {i : Instr} {s : State} {result : Result}
    (h : (after i s).history = s.history ++ [.completed (some i) result .notInitialized]) :
    after i s = s.raiseError (some i) .notInitialized := by
  obtain ⟨result', err, hh, -, herr⟩ := after_history i s
  obtain ⟨-, rfl⟩ : result' = result ∧ err = .notInitialized := by simpa [hh] using h
  obtain ⟨hi, hb⟩ := herr.1 rfl
  exact after_unbound hi hb

/-- A step ends at most one command, or resets, so it adds at most one record. -/
theorem step_history {s t : State} (h : step s = .next t) :
    t.history = s.history ∨ ∃ r, t.history = s.history ++ [r] := by
  rcases step_cases h with ⟨-, -, rfl⟩ | ⟨rest, -, -, rfl⟩ | ⟨-, rest, -, -, -, -, rfl⟩ |
    ⟨-, rest, i, -, -, -, rfl⟩ | ⟨-, rfl⟩
  · exact .inl rfl
  · exact .inr ⟨_, rfl⟩
  · exact .inr ⟨_, rfl⟩
  · obtain ⟨result, err, hh, -⟩ := after_history i { s with inputs := rest }
    exact .inr ⟨_, hh⟩
  · rcases microStep_history s with ⟨hh, -⟩ | ⟨cmd, result, err, hh, -⟩
    · exact .inl hh
    · exact .inr ⟨_, hh⟩

/-- The ERR code a command reports when it is the fault of 00_scope.md R8. -/
def Fault.err : Fault → Err
  | .notInitialized => .notInitialized
  | .illegalCommand => .illegalCommand

end Sys2Proof.Machine

namespace Sys2Proof.Safety

open Sys2Proof.Machine

/-! The fault mark (60_exceptions.md R129) and the fault of a step (00_scope.md R8), both by the ERR codes recorded. -/

theorem recordFault_eq_some_iff {r : Record} {f : Fault} :
    recordFault r = some f ↔ ∃ cmd result, r = .completed cmd result f.err := by
  cases r with
  | reset => simp [recordFault]
  | completed cmd result err => cases err <;> cases f <;> simp [recordFault, Fault.err]

/-- A record that is a fault has one of the two ERR codes. -/
theorem exists_recordFault_iff (P : Record → Prop) :
    (∃ r, P r ∧ ∃ f, recordFault r = some f) ↔
      ∃ cmd result, P (.completed cmd result .notInitialized) ∨ P (.completed cmd result .illegalCommand) := by
  simp only [recordFault_eq_some_iff]
  constructor
  · rintro ⟨_, h, _ | _, cmd, result, rfl⟩
    · exact ⟨cmd, result, .inl h⟩
    · exact ⟨cmd, result, .inr h⟩
  · rintro ⟨cmd, result, h | h⟩
    · exact ⟨_, h, .notInitialized, cmd, result, rfl⟩
    · exact ⟨_, h, .illegalCommand, cmd, result, rfl⟩

theorem faulted_iff {s : State} : faulted s = true ↔ ∃ r, r ∈ s.history ∧ ∃ f, recordFault r = some f := by
  simp [faulted, faultSince, ← Option.isSome_iff_exists]

/-- A step is the fault `f` exactly when the record it adds has the ERR of `f`. -/
theorem checkedStep_eq_fault_iff_history {s t : State} (h : step s = .next t) (f : Fault) :
    checkedStep s = .fault f ↔ ∃ cmd result, t.history = s.history ++ [.completed cmd result f.err] := by
  have hfault : checkedStep s = .fault f ↔ faultSince s.history.length t.history = some f := by
    simp [checkedStep_eq_fault_iff, h]
  rw [hfault]
  rcases step_history h with hh | ⟨r, hh⟩
  · simp [hh]
  · simp [hh, recordFault_eq_some_iff]

/-- A step keeps the mark, and sets it when the record it adds is a fault. -/
theorem faulted_step_iff {s t : State} (h : step s = .next t) :
    faulted t = true ↔ faulted s = true ∨ ∃ r, t.history = s.history ++ [r] ∧ ∃ f, recordFault r = some f := by
  rcases step_history h with hh | ⟨r, hh⟩
  · simp [faulted_iff, hh]
  · simp [faulted_iff, hh, or_and_right, exists_or]

/-- Settles O47: the mark and the fault of a step, each by the two ERR codes. -/
theorem faultMarkIsSetByTheTwoErrorsAndNeverCleared : Obligations.FaultMarkIsSetByTheTwoErrorsAndNeverCleared := by
  constructor
  · exact fun s => faulted_iff.trans (exists_recordFault_iff (· ∈ s.history))
  · intro s t h
    refine ⟨?mark, checkedStep_eq_fault_iff_history h .notInitialized,
      checkedStep_eq_fault_iff_history h .illegalCommand⟩
    exact (faulted_step_iff h).trans (or_congr_right (exists_recordFault_iff (t.history = s.history ++ [·])))

/-- Only a word that selects no command records E_ILLEGAL_COMMAND. -/
theorem step_of_illegalCommand {s t : State} {cmd : Option Instr} {result : Result} (h : step s = .next t)
    (hh : t.history = s.history ++ [.completed cmd result .illegalCommand]) :
    s.seq = .idle ∧ t = illegalWord { s with inputs := s.inputs.tail } := by
  have hfault : checkedStep s = .fault .illegalCommand :=
    (checkedStep_eq_fault_iff_history h .illegalCommand).2 ⟨cmd, result, hh⟩
  obtain ⟨hs, w, rest, e, hw, hd⟩ := (checkedStep_eq_illegalCommand_iff s).1 hfault
  rw [step_of_illegal hs hw hd] at h
  cases h
  rw [hw]
  exact ⟨hs, rfl⟩

/-- Settles O37: the one path that records each error raises it, which changes nothing else. -/
theorem errorsArePrecise : Obligations.ErrorsArePrecise := by
  constructor
  · intro i s t result h hh
    rw [exec_eq_after] at h
    cases h
    have herr := after_of_notInitialized hh
    rw [herr] at hh ⊢
    exact ⟨by simpa using hh.symm, rfl⟩
  · intro s t cmd result h hh
    obtain ⟨hs, rfl⟩ := step_of_illegalCommand h hh
    obtain ⟨hcmd, hresult⟩ : none = cmd ∧ 0 = result := by simpa [illegalWord] using hh
    refine ⟨hcmd.symm, hresult.symm, ?_⟩
    rw [illegalWord, raiseError_spec, ← hs]

end Sys2Proof.Safety

namespace Sys2Proof.Machine

/-! What the host delivers in IDLE beside a word: nothing, the reset input, or a command cut by it
(70_reset_and_hazards.md R140, R141). -/

theorem step_of_no_input {s : State} (hs : s.seq = .idle) (hw : s.inputs = []) : step s = .next s := by
  simp [step, take, hs, hw]

theorem step_of_reset {s : State} {rest : List HostInput} (hs : s.seq = .idle) (hw : s.inputs = .reset :: rest) :
    step s = .next (State.pulseReset { s with inputs := rest }) := by
  simp [step, take, hs, hw]

theorem take_eq_cutByReset_iff {s : State} :
    take s = .cutByReset ↔ ∃ w rest, s.inputs = .commandCutByReset w :: rest := by
  cases hw : s.inputs with
  | nil => simp [take, hw]
  | cons input rest =>
    cases input with
    | command w => cases hd : decode w <;> simp [take, hw, hd]
    | reset | commandCutByReset => simp [take, hw]

/-- A step is refused in IDLE alone, on the input that cuts a command by reset. -/
theorem step_eq_refused_iff {s : State} {r : Refusal} :
    step s = .refused r ↔ r = .resetDuringCommand ∧ s.seq = .idle ∧ take s = .cutByReset := by
  by_cases hs : s.seq = .idle
  · simp only [step, hs]
    cases take s with
    | command i t => simp [exec_eq_after]
    | cutByReset => simp [refuseReset, eq_comm]
    | nothing | reset | illegal => simp
  · simp [step_of_busy hs, hs]

/-- Settles O14: when a step is refused, and no step faults. -/
theorem onlyResetDuringACommandStopsAStep : Obligations.OnlyResetDuringACommandStopsAStep := by
  refine ⟨fun s r => ?_, step_ne_fault⟩
  rw [step_eq_refused_iff, take_eq_cutByReset_iff]

/-- Settles O11: the empty list of inputs leaves the state as it is. -/
theorem blockWaitsInIdleWithoutInput : Obligations.BlockWaitsInIdleWithoutInput :=
  fun _ hs hw => step_of_no_input hs hw

/-- Settles O12: each register evaluated, and MODE by BOUND. -/
theorem resetStateIsAsSpecified : Obligations.ResetStateIsAsSpecified :=
  ⟨rfl, mode_unbound rfl, rfl, rfl, rfl, rfl, rfl, rfl, rfl⟩

/-- Settles O13: the reset input taken is a reset pulse, and SEQ was IDLE before it. -/
theorem resetInputBringsTheResetValues : Obligations.ResetInputBringsTheResetValues := by
  intro s rest hs hw
  rw [step_of_reset hs hw, State.pulseReset, ← hs]

end Sys2Proof.Machine

namespace Sys2Proof.Safety

open Sys2Proof.Machine

/-! The caller's wait before READ (70_reset_and_hazards.md R143, R151), record by record. -/

/-- A record that opens the stretch of RDY, or leaves it open, leaves a sent byte recorded. -/
theorem noteSent_isSome {v : Bool} {p : Byte × Option Byte} {r : Record} (hp : v = true → p.2.isSome = true)
    (hr : noteRdyWindow v r = true) : (noteSent p r).2.isSome = true := by
  cases r with
  | reset => cases hr
  | completed cmd result err =>
    cases cmd with
    | none => exact hp hr
    | some i =>
      cases i with
      | begin => cases hr
      | start =>
        cases err with
        | ok => rfl
        | noDevice | notInitialized | invalidConfiguration | illegalCommand => exact hp hr
      | read =>
        cases err with
        | ok => cases hr
        | noDevice | notInitialized | invalidConfiguration | illegalCommand => exact hp hr
      | setp | rdy | getTemp | getRaw | getAddr | isReading => exact hp hr

/-- Between a START and the READ that follows, some START has sent a byte. -/
theorem sentAfter_isSome_of_rdyMeaningful {h : List Record} (hm : rdyMeaningful h = true) :
    (sentAfter h).2.isSome = true := by
  induction h using List.reverseRecOn with
  | nil => cases hm
  | append_singleton h r ih =>
    rw [rdyMeaningful_append] at hm
    rw [sentAfter_append]
    exact noteSent_isSome ih hm

/-- Right after a START no RDY has been made, so `T_CONV` of the byte in force, the one it sent, is what counts. -/
theorem waitHonoured_append_start (h : List Record) (result : Result) (elapsed : Nat) :
    waitHonoured (h ++ [.completed (some .start) result .ok]) elapsed ↔
      Config.tConv (resolutionAfter h) ≤ elapsed := by
  simp [waitHonoured, noteSent, notePolled, sentAfter_fst]

theorem waitHonoured_append_setp (h : List Record) (imm8 : Byte) (result : Result) (err : Err) (elapsed : Nat) :
    waitHonoured (h ++ [.completed (some (.setp imm8)) result err]) elapsed ↔ waitHonoured h elapsed := by
  simp [waitHonoured, noteSent, notePolled]

/-- A RDY counts exactly when it answers ready in its stretch, where a byte has been sent. -/
theorem waitHonoured_append_rdy (h : List Record) (result : Result) (err : Err) (elapsed : Nat) :
    waitHonoured (h ++ [.completed (some .rdy) result err]) elapsed ↔
      waitHonoured h elapsed ∨ rdyMeaningful h = true ∧ hostReady result = true := by
  have hsent : rdyMeaningful h = true → ∃ sent, (sentAfter h).2 = some sent :=
    fun hm => Option.isSome_iff_exists.1 (sentAfter_isSome_of_rdyMeaningful hm)
  have hsame : (sentAfter (h ++ [.completed (some .rdy) result err])).2 = (sentAfter h).2 := by simp [noteSent]
  have hpolled : polledReady (h ++ [.completed (some .rdy) result err]) = true ↔
      polledReady h = true ∨ rdyMeaningful h = true ∧ hostReady result = true := by simp [notePolled]
  rw [waitHonoured, hsame, hpolled]
  constructor
  · rintro ⟨sent, hs, (hp | hr) | ht⟩
    · exact .inl ⟨sent, hs, .inl hp⟩
    · exact .inr hr
    · exact .inl ⟨sent, hs, .inr ht⟩
  · rintro (⟨sent, hs, hp | ht⟩ | hr)
    · exact ⟨sent, hs, .inl (.inl hp)⟩
    · exact ⟨sent, hs, .inr ht⟩
    · obtain ⟨sent, hs⟩ := hsent hr.1
      exact ⟨sent, hs, .inl (.inr hr)⟩

/-- A bound READ ends the stretch. -/
theorem rdyMeaningful_after_read {s : State} (hb : s.bound = true) :
    rdyMeaningful (after .read s).history = false := by
  simp [after_read_bound hb, readSequence_spec, noteRdyWindow]

/-- BEGIN ends the stretch, whatever its outcome. -/
theorem rdyMeaningful_after_begin (s : State) : rdyMeaningful (after .begin s).history = false := by
  obtain ⟨result, err, hh, -⟩ := after_history .begin s
  simp [hh, noteRdyWindow]

/-- Settles O48: what the record of each command does to the wait and to the stretch of RDY; for START the byte in force
is RESOLUTION by the invariant. -/
theorem waitDutyBelongsToTheByteStartSent : Obligations.WaitDutyBelongsToTheByteStartSent := by
  refine ⟨fun s t elapsed hinv hb h => ?start, fun imm8 s t elapsed h => ?setp, fun s t elapsed h => ?rdy,
    fun s t h => ?ends⟩
  case start =>
    rw [exec_eq_after, after_start_bound hb, startSequence_spec] at h
    cases h
    rw [rdyMeaningful_append, waitHonoured_append_start, hinv.resolutionIsRecorded]
    exact ⟨rfl, Iff.rfl⟩
  case setp =>
    rw [exec_eq_after] at h
    cases h
    exact ⟨rdyMeaningful_append .., waitHonoured_append_setp ..⟩
  case rdy =>
    rw [exec_eq_after] at h
    cases h
    refine ⟨rdyMeaningful_append .., (waitHonoured_append_rdy ..).trans ?_⟩
    simp [hostReady_resultOfByte]
  case ends =>
    simp only [exec_eq_after, Host.Outcome.next.injEq] at h
    rcases h with ⟨hb, rfl⟩ | rfl
    · exact rdyMeaningful_after_read hb
    · exact rdyMeaningful_after_begin s

end Sys2Proof.Safety
